-- ==== Sys2Proof/Word.lean ====
section
/-! DEFINITION. The widths the spec gives to bytes, data values, samples and configuration words
(spec/00_scope.md R10, spec/10_state.md R20), and the two physical channels. -/

namespace Sys2Proof

/-- A byte on `rx_byte[c]` (R10: bit 7 is the most significant). -/
abbrev Byte := BitVec 8

/-- The 7-bit value of a data byte (30_encoding.md R80), zero-extended where it is used as a number. -/
abbrev Data7 := BitVec 7

/-- The low nibble of a channel-voice status byte: MIDI channel `n + 1` (30_encoding.md R81, R82). -/
abbrev Nibble := BitVec 4

/-- A 12-bit unsigned sample of the Output Sink (00_scope.md R2, 10_state.md R38). -/
abbrev Sample := BitVec 12

/-- A word of the configuration port, `cfg_wdata` or `cfg_rdata` (10_state.md R20). -/
abbrev CfgWord := BitVec 16

/-- The address of a configuration register, `cfg_addr` or `cfg_raddr` (10_state.md R20, R42). -/
abbrev CfgAddr := BitVec 3

/-- A physical channel id, 0 or 1 (00_scope.md R7 `NCH = 2`, R15; 10_state.md R24). -/
inductive Chan where
  | ch0
  | ch1
  deriving DecidableEq, Repr

/-- The channel id as the number the event encoding carries (30_encoding.md R93). -/
def Chan.index : Chan → Nat
  | .ch0 => 0
  | .ch1 => 1

/-- The channel id in the width of `CLK_SRC`, for the comparison `CLK_SRC = m.chan` (41_router.md R150). -/
def Chan.code : Chan → BitVec 2
  | .ch0 => 0#2
  | .ch1 => 1#2

/-- The other physical channel, `1 - c`. -/
def Chan.other : Chan → Chan
  | .ch0 => .ch1
  | .ch1 => .ch0

end Sys2Proof
end

