-- ==== Sys2Proof/Syntax.lean ====
section
/-! DEFINITION. The block's instructions: one constructor per row of spec/opcode_table.json. The 24 byte classes carry the
physical channel the byte arrived on (event `BYTE(c, b)`, 30_encoding.md R93) and the bits the table names as fields;
the 7 port events carry the operands of R93. -/

namespace Sys2Proof

/-- One input event of the block (30_encoding.md R93), a byte event split by the byte class of its byte. -/
inductive Instr where
  /-- `DATA`, byte `0ddddddd` on channel `c` (40_decoder.md R111). -/
  | data (c : Chan) (d : Data7)
  /-- `NOTE_OFF`, status `1000nnnn` (R114). -/
  | noteOff (c : Chan) (n : Nibble)
  /-- `NOTE_ON`, status `1001nnnn` (R115). -/
  | noteOn (c : Chan) (n : Nibble)
  /-- `POLY_AT`, status `1010nnnn` (R116). -/
  | polyAt (c : Chan) (n : Nibble)
  /-- `CC`, status `1011nnnn` (R117). -/
  | cc (c : Chan) (n : Nibble)
  /-- `PC`, status `1100nnnn` (R118). -/
  | pc (c : Chan) (n : Nibble)
  /-- `CHAN_AT`, status `1101nnnn` (R119). -/
  | chanAt (c : Chan) (n : Nibble)
  /-- `PITCH_WHEEL`, status `1110nnnn` (R120). -/
  | pitchWheel (c : Chan) (n : Nibble)
  /-- `SYSEX_START`, status 0xF0 (R121). -/
  | sysexStart (c : Chan)
  /-- `QUARTER_FRAME`, status 0xF1 (R122). -/
  | quarterFrame (c : Chan)
  /-- `SONG_POS`, status 0xF2 (R123). -/
  | songPos (c : Chan)
  /-- `SONG_SEL`, status 0xF3 (R124). -/
  | songSel (c : Chan)
  /-- `MEASURE_END`, status 0xF9 (R125). -/
  | measureEnd (c : Chan)
  /-- `UNDEF_F4`, undefined status 0xF4 (R136). -/
  | undefF4 (c : Chan)
  /-- `UNDEF_F5`, undefined status 0xF5 (R137). -/
  | undefF5 (c : Chan)
  /-- `RT_F6`, real-time byte 0xF6 (R127). -/
  | rtF6 (c : Chan)
  /-- `RT_F7`, real-time byte 0xF7 (R128). -/
  | rtF7 (c : Chan)
  /-- `TIMING_CLOCK`, real-time byte 0xF8 (R129, R160). -/
  | timingClock (c : Chan)
  /-- `START`, real-time byte 0xFA (R130, R161). -/
  | start (c : Chan)
  /-- `RT_FB`, real-time byte 0xFB (R131). -/
  | rtFB (c : Chan)
  /-- `RT_FC`, real-time byte 0xFC (R132). -/
  | rtFC (c : Chan)
  /-- `RT_FD`, real-time byte 0xFD (R133). -/
  | rtFD (c : Chan)
  /-- `RT_FE`, real-time byte 0xFE (R134). -/
  | rtFE (c : Chan)
  /-- `RT_FF`, real-time byte 0xFF (R135). -/
  | rtFF (c : Chan)
  /-- `REINIT(c)`, event code 1 (43_config_time.md R225). -/
  | reinit (c : Chan)
  /-- `GLIDE_TICK`, event code 2 (42_engine.md R190). -/
  | glideTick
  /-- `FLUSH_TICK(ok)`, event code 3; `ok` is the Output Sink's answer `dac_ok` (42_engine.md R200). -/
  | flushTick (ok : Bool)
  /-- `CFG_WRITE(a, w)`, event code 4 (43_config_time.md R220). -/
  | cfgWrite (a : CfgAddr) (w : CfgWord)
  /-- `CFG_READ(a)`, event code 5 (43_config_time.md R221). -/
  | cfgRead (a : CfgAddr)
  /-- `TIME(d)`, event code 6; legal only for `d ≥ 1` (43_config_time.md R226). -/
  | time (d : Nat)
  /-- `RESET`, event code 7 (70_reset_and_hazards.md R280). -/
  | reset
  deriving DecidableEq, Repr

end Sys2Proof
end

