-- ==== Sys2Proof/WellFormed.lean ====
section
/-! DEFINITION. Which events are legal. Every operand range of 30_encoding.md R93 is a width of `Instr`'s own types, but for
`TIME(d)`, whose `d` has a lower bound and no upper one. -/

namespace Sys2Proof

/-- A legal event: `TIME(d)` needs `d ≥ 1` ("`d = 0` is not a legal event", 43_config_time.md R226); every other event is
accepted whatever its operands (30_encoding.md R91, 60_exceptions.md R259). -/
def Instr.wellFormed : Instr → Bool
  | .time d => decide (1 ≤ d)
  | .data _ _ | .noteOff _ _ | .noteOn _ _ | .polyAt _ _ | .cc _ _ | .pc _ _ | .chanAt _ _ | .pitchWheel _ _ => true
  | .sysexStart _ | .quarterFrame _ | .songPos _ | .songSel _ | .measureEnd _ => true
  | .undefF4 _ | .undefF5 _ => true
  | .rtF6 _ | .rtF7 _ | .timingClock _ | .start _ | .rtFB _ | .rtFC _ | .rtFD _ | .rtFE _ | .rtFF _ => true
  | .reinit _ | .glideTick | .flushTick _ | .cfgWrite _ _ | .cfgRead _ | .reset => true

/-- `Instr.wellFormed` as a proposition. -/
abbrev Instr.WellFormed (i : Instr) : Prop := i.wellFormed = true

end Sys2Proof
end

