-- ==== Sys2Proof/Decode.lean ====
section
/-! DEFINITION. The event decoder, total and rejecting by name, and the encoder. A raw event is the list
`(event code, operands)` in which spec/95_test_vectors.md section 13 writes every program, with the codes of 30_encoding.md
R93. -/

namespace Sys2Proof

/-- An input event as the environment presents it: the event code of 30_encoding.md R93, then its operands in R93's order. -/
abbrev RawEvent := List Nat

/-- Why a raw event is no event of 30_encoding.md R93. -/
inductive EventError where
  /-- no event code at all -/
  | noCode
  /-- an event code above 7 -/
  | unknownCode (code : Nat)
  /-- too few or too many operands for the event code -/
  | operandCount (code : Nat)
  /-- a physical channel other than 0 and 1 -/
  | channelRange (c : Nat)
  /-- a byte above 255 -/
  | byteRange (b : Nat)
  /-- a `dac_ok` other than 0 and 1 -/
  | dacOkRange (v : Nat)
  /-- a configuration address above 7 -/
  | addressRange (a : Nat)
  /-- a configuration word above 65535 -/
  | wordRange (w : Nat)
  deriving DecidableEq, Repr

/-! ## Bytes -/

/-- The status byte with type nibble `t` and MIDI channel nibble `n` (30_encoding.md R81). -/
def statusByte (t n : Nibble) : Byte := t ++ n

/-- The instruction of a byte of 0xF0..0xFF by its low nibble: "the whole byte selects the message" (30_encoding.md R81,
R84..R86). -/
def decodeSystem (c : Chan) (s : Nibble) : Instr :=
  match s.toNat with
  | 0 => .sysexStart c
  | 1 => .quarterFrame c
  | 2 => .songPos c
  | 3 => .songSel c
  | 4 => .undefF4 c
  | 5 => .undefF5 c
  | 6 => .rtF6 c
  | 7 => .rtF7 c
  | 8 => .timingClock c
  | 9 => .measureEnd c
  | 10 => .start c
  | 11 => .rtFB c
  | 12 => .rtFC c
  | 13 => .rtFD c
  | 14 => .rtFE c
  | _ => .rtFF c

/-- The instruction of a byte received on channel `c`; every one of the 256 bytes has one (30_encoding.md R80..R87, R91). -/
def decodeByte (c : Chan) (b : Byte) : Instr :=
  match (b.extractLsb' 4 4).toNat with
  | 8 => .noteOff c (b.extractLsb' 0 4)
  | 9 => .noteOn c (b.extractLsb' 0 4)
  | 10 => .polyAt c (b.extractLsb' 0 4)
  | 11 => .cc c (b.extractLsb' 0 4)
  | 12 => .pc c (b.extractLsb' 0 4)
  | 13 => .chanAt c (b.extractLsb' 0 4)
  | 14 => .pitchWheel c (b.extractLsb' 0 4)
  | 15 => decodeSystem c (b.extractLsb' 0 4)
  | _ => .data c (b.extractLsb' 0 7)

/-! ## Events -/

/-- A physical channel operand. -/
def decodeChan : Nat → Option Chan
  | 0 => some .ch0
  | 1 => some .ch1
  | _ => none

/-- The operand `ok` of `FLUSH_TICK`. -/
def decodeOk : Nat → Option Bool
  | 0 => some false
  | 1 => some true
  | _ => none

/-- `BYTE(c, b)`, event code 0. -/
def decodeByteEvent (c b : Nat) : Except EventError Instr :=
  match decodeChan c with
  | none => .error (.channelRange c)
  | some ch => if b < 256 then .ok (decodeByte ch (BitVec.ofNat 8 b)) else .error (.byteRange b)

/-- `REINIT(c)`, event code 1. -/
def decodeReinit (c : Nat) : Except EventError Instr :=
  match decodeChan c with
  | none => .error (.channelRange c)
  | some ch => .ok (.reinit ch)

/-- `FLUSH_TICK(ok)`, event code 3. -/
def decodeFlush (v : Nat) : Except EventError Instr :=
  match decodeOk v with
  | none => .error (.dacOkRange v)
  | some ok => .ok (.flushTick ok)

/-- `CFG_WRITE(a, w)`, event code 4. -/
def decodeCfgWrite (a w : Nat) : Except EventError Instr :=
  if a < 8 then
    if w < 65536 then .ok (.cfgWrite (BitVec.ofNat 3 a) (BitVec.ofNat 16 w)) else .error (.wordRange w)
  else .error (.addressRange a)

/-- `CFG_READ(a)`, event code 5. -/
def decodeCfgRead (a : Nat) : Except EventError Instr :=
  if a < 8 then .ok (.cfgRead (BitVec.ofNat 3 a)) else .error (.addressRange a)

/-- The event a raw event is, or the name of what is wrong with it (30_encoding.md R93). -/
def decodeEvent : RawEvent → Except EventError Instr
  | [0, c, b] => decodeByteEvent c b
  | [1, c] => decodeReinit c
  | [2] => .ok .glideTick
  | [3, v] => decodeFlush v
  | [4, a, w] => decodeCfgWrite a w
  | [5, a] => decodeCfgRead a
  | [6, d] => .ok (.time d)
  | [7] => .ok .reset
  | [] => .error .noCode
  | code :: _ => if code ≤ 7 then .error (.operandCount code) else .error (.unknownCode code)

/-! ## The opcode table's numbering -/

/-- The raw event of a row of spec/opcode_table.json whose bits are `w`. The table gives a byte class the 8 bits of its byte and
a port event the 3 bits of its event code, with no bits for operands. The words 1..7 are read as event codes, with the
operands 0 (`TIME`: 1, its least legal operand); every other word is a byte on channel 0 (assumption 6). -/
def tableEvent (nbits w : Nat) : RawEvent :=
  match w % 2 ^ nbits with
  | 1 => [1, 0]
  | 2 => [2]
  | 3 => [3, 0]
  | 4 => [4, 0, 0]
  | 5 => [5, 0]
  | 6 => [6, 1]
  | 7 => [7]
  | b => [0, 0, b]

/-- What the decoder reads from the bits of a row of spec/opcode_table.json. -/
def decodeTableWord (nbits w : Nat) : Option Instr :=
  match decodeEvent (tableEvent nbits w) with
  | .ok i => some i
  | .error _ => none

/-! ## The encoder -/

/-- `(0, c, b)`, a byte event. -/
def byteEvent (c : Chan) (b : Byte) : RawEvent := [0, c.index, b.toNat]

/-- The raw event of an event, from the byte map of 30_encoding.md R83..R86 and the codes of R93. -/
def encode : Instr → RawEvent
  | .data c d => byteEvent c (0#1 ++ d)
  | .noteOff c n => byteEvent c (statusByte 0x8#4 n)
  | .noteOn c n => byteEvent c (statusByte 0x9#4 n)
  | .polyAt c n => byteEvent c (statusByte 0xA#4 n)
  | .cc c n => byteEvent c (statusByte 0xB#4 n)
  | .pc c n => byteEvent c (statusByte 0xC#4 n)
  | .chanAt c n => byteEvent c (statusByte 0xD#4 n)
  | .pitchWheel c n => byteEvent c (statusByte 0xE#4 n)
  | .sysexStart c => byteEvent c 0xF0#8
  | .quarterFrame c => byteEvent c 0xF1#8
  | .songPos c => byteEvent c 0xF2#8
  | .songSel c => byteEvent c 0xF3#8
  | .measureEnd c => byteEvent c 0xF9#8
  | .undefF4 c => byteEvent c 0xF4#8
  | .undefF5 c => byteEvent c 0xF5#8
  | .rtF6 c => byteEvent c 0xF6#8
  | .rtF7 c => byteEvent c 0xF7#8
  | .timingClock c => byteEvent c 0xF8#8
  | .start c => byteEvent c 0xFA#8
  | .rtFB c => byteEvent c 0xFB#8
  | .rtFC c => byteEvent c 0xFC#8
  | .rtFD c => byteEvent c 0xFD#8
  | .rtFE c => byteEvent c 0xFE#8
  | .rtFF c => byteEvent c 0xFF#8
  | .reinit c => [1, c.index]
  | .glideTick => [2]
  | .flushTick ok => [3, ok.toNat]
  | .cfgWrite a w => [4, a.toNat, w.toNat]
  | .cfgRead a => [5, a.toNat]
  | .time d => [6, d]
  | .reset => [7]

end Sys2Proof
end

