-- ==== Sys2Proof/Config.lean ====
section
/-! DEFINITION. The implementation parameters of 00_scope.md R7 and R8: their types, the constraint on the rate table, and the
parameters of the chip itself. A parameter the spec marks OPEN is an opaque constant of this file, so that nothing can be
proved from a value of it; a parameter with a default takes its default. -/

namespace Sys2Proof

/-! ## The configuration registers as data (10_state.md R42) -/

/-- The six configuration registers of 10_state.md R42, each in its own width. -/
structure CfgRegs where
  /-- `FILTER0`, 0 = all, 1..16 = MIDI channel (R44). -/
  filter0 : BitVec 5
  /-- `FILTER1`, the same for physical channel 1 (R44). -/
  filter1 : BitVec 5
  /-- `CLK_SRC`, 0 and 1 = the channel's clock, 2 = internal (R47). -/
  clkSrc : BitVec 2
  /-- `PW_RANGE`, half pitch-wheel range in half-notes, 0..24 (R46). -/
  pwRange : BitVec 5
  /-- `GLIDE_AMT`, a two's-complement word of `GLIDE_AMT_BITS = 16` bits (R43). -/
  glideAmt : BitVec 16
  /-- `GLIDE_MODE`, 0 = Portamento, 1 = Glissando (R48). -/
  glideMode : BitVec 1
  deriving DecidableEq, Repr

/-- Every field holds a legal value (10_state.md R42, R44, R46, R47). -/
def CfgRegs.legal (r : CfgRegs) : Bool :=
  decide (r.filter0.toNat ≤ 16) && decide (r.filter1.toNat ≤ 16) && decide (r.clkSrc.toNat ≤ 2) &&
    decide (r.pwRange.toNat ≤ 24)

/-- The defaults of `CFG_RESET` (10_state.md R45). -/
def CfgRegs.defaults : CfgRegs where
  filter0 := 0#5
  filter1 := 0#5
  clkSrc := 2#2
  pwRange := 2#5
  glideAmt := 0#16
  glideMode := 0#1

/-! ## The glide-rate table (20_memory.md R60, 00_scope.md R8) -/

/-- A list of naturals that never rises. -/
def nonIncreasing : List Nat → Bool
  | [] => true
  | [_] => true
  | a :: b :: rest => decide (b ≤ a) && nonIncreasing (b :: rest)

/-- What 00_scope.md R7 and R8 ask of `RATE_TABLE`: 128 entries, each in 1..65535, entry 0 = 65535, entry 127 = 100,
non-increasing. -/
def rateTableLegal (entries : List Nat) : Bool :=
  decide (entries.length = 128) && entries.all (fun e => decide (1 ≤ e) && decide (e ≤ 65535)) &&
    decide (entries.head? = some 65535) && decide (entries.getLast? = some 100) && nonIncreasing entries

/-- The block's one memory, read-only (20_memory.md R60). Only a table that R7 and R8 allow is a value of this type, so a
configuration with another table cannot be given to the machine: see `RateTable.ofEntries`. -/
structure RateTable where
  entries : List Nat
  legal : rateTableLegal entries = true
  deriving DecidableEq, Repr

/-- A table given entry by entry; a table that breaks the constraints is refused (00_scope.md R8: "must refuse the
configuration"). -/
def RateTable.ofEntries (entries : List Nat) : Option RateTable :=
  if h : rateTableLegal entries = true then some ⟨entries, h⟩ else none

/-! ## The parameters (00_scope.md R7) -/

/-- The parameters of 00_scope.md R7 that a run fixes. `NCH`, `DAC_MAX` and `GLIDE_AMT_BITS` are not here: the spec fixes them
(`Chan` has two values, `Config.dacMax`, and the width of `CfgRegs.glideAmt`). -/
structure Params where
  /-- `RATE_TABLE`, half-notes per 100 seconds. -/
  rateTable : RateTable
  /-- `C0_REF`, the MIDI note number of the conversion reference. -/
  c0Ref : Rat
  /-- `VPHN`, DAC units per half-note. -/
  vphn : Rat
  /-- `DAC_C0`, the DAC value at note C0. -/
  dacC0 : Rat
  /-- `INIT_NOTE`, the note registers at reset. -/
  initNote : Rat
  /-- `VEL0_IS_NOTE_OFF`. -/
  vel0IsNoteOff : Bool
  /-- `FLUSH_PERIOD_US`, read by no rule (43_config_time.md R227). -/
  flushPeriodUs : Nat
  /-- `GLIDE_PERIOD_US`, read by no rule (43_config_time.md R227). -/
  glidePeriodUs : Nat
  /-- `CFG_RESET`. -/
  cfgReset : CfgRegs
  deriving DecidableEq, Repr

/-- `DAC_MAX` (00_scope.md R7). -/
def Config.dacMax : Int := 4095

/-! ## The open values -/

/-- OPEN (00_scope.md R7, D21): `C0_REF` of the chip. -/
opaque Config.c0Ref : Rat

/-- OPEN (00_scope.md R7, D21): `VPHN` of the chip. -/
opaque Config.vphn : Rat

/-- OPEN (00_scope.md R7, D21): `DAC_C0` of the chip. -/
opaque Config.dacC0 : Rat

/-- OPEN (00_scope.md R7, D22): the entries 1..126 of the chip's `RATE_TABLE`, read through `Config.rateTail`. -/
opaque Config.rateEntry : Nat → Nat

/-- The status byte of a message completed while `message_kind` is `IDLE`. 40_decoder.md R112 gives none, and 10_state.md R30
item 1 says no run reaches such a completion: a free value (assumption 9). -/
opaque Config.idleStatus : Data7 → Data7 → Byte

/-- `n` entries of the table from index `i` on, after an entry `prev`, and then entry 127. The open entry is held between 100
and `prev`, which a legal table's entry always is: every legal table is reached, and nothing else is. -/
def Config.rateTail : (n i prev : Nat) → List Nat
  | 0, _, _ => [100]
  | n + 1, i, prev =>
    max 100 (min prev (Config.rateEntry i)) :: Config.rateTail n (i + 1) (max 100 (min prev (Config.rateEntry i)))

theorem Config.rateTail_length (n i prev : Nat) : (Config.rateTail n i prev).length = n + 1 := by
  induction n generalizing i prev with
  | zero => rfl
  | succ n ih => simp [Config.rateTail, ih]

theorem Config.rateTail_getLast (n i prev : Nat) : (Config.rateTail n i prev).getLast? = some 100 := by
  induction n generalizing i prev with
  | zero => rfl
  | succ n ih => rw [Config.rateTail, List.getLast?_cons, ih]; rfl

theorem Config.rateTail_all (n i prev : Nat) (h : 100 ≤ prev) (h' : prev ≤ 65535) :
    (Config.rateTail n i prev).all (fun e => decide (1 ≤ e) && decide (e ≤ 65535)) = true := by
  induction n generalizing i prev with
  | zero => rfl
  | succ n ih =>
    have h1 : 100 ≤ max 100 (min prev (Config.rateEntry i)) := by omega
    have h2 : max 100 (min prev (Config.rateEntry i)) ≤ 65535 := by omega
    rw [Config.rateTail, List.all_cons, ih _ _ h1 h2]
    simp only [Bool.and_true, Bool.and_eq_true, decide_eq_true_eq]
    omega

theorem Config.rateTail_nonIncreasing (n i prev : Nat) (h : 100 ≤ prev) :
    nonIncreasing (prev :: Config.rateTail n i prev) = true := by
  induction n generalizing i prev with
  | zero => simpa [Config.rateTail, nonIncreasing] using h
  | succ n ih =>
    rw [Config.rateTail, nonIncreasing, ih _ _ (by omega)]
    simp only [Bool.and_true, decide_eq_true_eq]
    omega

/-- The chip's rate table: entry 0 = 65535, entry 127 = 100, the others open (00_scope.md R7). -/
def Config.rateTable : RateTable where
  entries := 65535 :: Config.rateTail 126 1 65535
  legal := by
    have h1 := Config.rateTail_length 126 1 65535
    have h2 := Config.rateTail_getLast 126 1 65535
    have h3 := Config.rateTail_all 126 1 65535 (by omega) (by omega)
    have h4 := Config.rateTail_nonIncreasing 126 1 65535 (by omega)
    simp only [rateTableLegal, List.length_cons, h1, List.all_cons, h3, List.head?_cons, List.getLast?_cons, h2, h4]
    rfl

/-- The chip's parameters: the OPEN ones are the opaque constants above, the others their defaults (00_scope.md R7; `INIT_NOTE`
defaults to `C0_REF`, D23). -/
def Config.chip : Params where
  rateTable := Config.rateTable
  c0Ref := Config.c0Ref
  vphn := Config.vphn
  dacC0 := Config.dacC0
  initNote := Config.c0Ref
  vel0IsNoteOff := false
  flushPeriodUs := 250
  glidePeriodUs := 1000
  cfgReset := CfgRegs.defaults

end Sys2Proof
end

