-- ==== Sys2Proof/Machine/Arith.lean ====
section
/-! DEFINITION. The functions of 00_scope.md R11 and the engine's arithmetic, all exact in the rationals (R9): the rate-table
read, the glide duration, the note quantisation, the conversion to a sample and the pitch-wheel offset. -/

namespace Sys2Proof.Machine

/-! ## Rounding and clamping (00_scope.md R11) -/

/-- `clamp(lo, hi, x) = min(hi, max(lo, x))`. -/
def clampInt (lo hi x : Int) : Int := min hi (max lo x)

/-- `|x|`. -/
def absRat (x : Rat) : Rat := if x < 0 then -x else x

/-- `trunc(x)`: the integer part, rounded toward zero. -/
def truncRat (x : Rat) : Int := if x < 0 then -(-x).floor else x.floor

/-- `round_half_away(x) = sign(x) * floor(|x| + 1/2)`. -/
def roundHalfAway (x : Rat) : Int := if x < 0 then -(-x + 1 / 2).floor else (x + 1 / 2).floor

/-! ## The rate table and the glide-time model (20_memory.md R60, 42_engine.md R182) -/

theorem entries_length (t : RateTable) : t.entries.length = 128 := by
  have h := t.legal
  simp only [rateTableLegal, Bool.and_eq_true, decide_eq_true_eq] at h
  exact h.1.1.1.1

/-- `RateROM(i)`, the block's one memory read (20_memory.md R60, R62: an index cannot leave 0..127). -/
def rateROM (t : RateTable) (i : Fin 128) : Nat := t.entries[i.val]'(by rw [entries_length]; exact i.isLt)

/-- `clamp(0, 127, GLIDE_AMT)` of the signed register (10_state.md R43). -/
def glideIndex (amt : BitVec 16) : Fin 128 := ⟨(clampInt 0 127 amt.toInt).toNat, by simp only [clampInt]; omega⟩

/-- `GLIDE_DURATION(delta)` in microseconds (42_engine.md R182). -/
def glideDuration (t : RateTable) (amt : BitVec 16) (delta : Rat) : Nat :=
  (delta * 100 * 1000000 / (rateROM t (glideIndex amt) : Rat)).floor.toNat

/-! ## Note-to-DAC conversion (42_engine.md R192, R193) -/

/-- `OUT_NOTE(x)`: the note itself in Portamento (`GLIDE_MODE = 0`), its integer part in Glissando. -/
def outNote (mode : BitVec 1) (x : Rat) : Rat := if mode = 0#1 then x else (truncRat x : Rat)

/-- `raw` of R193, before rounding and clamping. -/
def rawOutput (p : Params) (x off : Rat) : Rat := (x - p.c0Ref) * p.vphn + p.dacC0 + off

/-- `CONVERT(x, off)` (R193). The clamp leaves 0..4095, so the twelve bits hold it whole. -/
def convert (p : Params) (x off : Rat) : Sample :=
  BitVec.ofNat 12 (clampInt 0 Config.dacMax (roundHalfAway (rawOutput p x off))).toNat

/-! ## The pitch wheel (42_engine.md R196) -/

/-- The offset of a 14-bit pitch-wheel value `v` with half-range `range`. -/
def pitchOffset (p : Params) (range : BitVec 5) (v : Nat) : Rat := ((v : Rat) - 8192) * (range.toNat : Rat) * p.vphn / 8192

end Sys2Proof.Machine
end

