-- ==== Sys2Proof/Machine/State.lean ====
section
/-! DEFINITION. The registers of 10_state.md, the output ports of its R20, the reasons a step can stop, and the state after
reset (R53). Plain data throughout. -/

namespace Sys2Proof.Machine

/-! ## The Channel Decoder (10_state.md R24..R29) -/

/-- `message_kind` (R26): the codes 0..12; the codes 13..15 are never held and have no name. -/
inductive Kind where
  | idle
  | noteOff
  | noteOn
  | polyAt
  | cc
  | pc
  | chanAt
  | pitchWheel
  | sysexStart
  | quarterFrame
  | songPos
  | songSel
  | measureEnd
  deriving DecidableEq, Repr

/-- The registers of one Channel Decoder (R25..R29). -/
structure Decoder where
  /-- `running_status`; `NONE` is 0x00 (R25). -/
  runningStatus : Byte
  /-- `message_kind` (R26). -/
  messageKind : Kind
  /-- `data1` (R27). -/
  data1 : Data7
  /-- `data2` (R27). -/
  data2 : Data7
  /-- `bytes_received` (R28). -/
  bytesReceived : BitVec 2
  /-- `bytes_expected` (R29). -/
  bytesExpected : BitVec 2
  deriving DecidableEq, Repr

/-- A decoder's registers at reset and after re-initialisation (R53, 43_config_time.md R225). -/
def Decoder.reset : Decoder where
  runningStatus := 0#8
  messageKind := .idle
  data1 := 0#7
  data2 := 0#7
  bytesReceived := 0#2
  bytesExpected := 0#2

/-! ## The Glide/Pitch Engine (10_state.md R31..R39) -/

/-- The registers of the engine. -/
structure Engine where
  /-- `current_note` (R33). -/
  currentNote : Rat
  /-- `begin_note` (R34). -/
  beginNote : Rat
  /-- `end_note` (R34). -/
  endNote : Rat
  /-- `begin_tick`, microseconds (R35). -/
  beginTick : Nat
  /-- `end_tick`, microseconds (R35). -/
  endTick : Nat
  /-- `rate_factor`, half-notes per microsecond (R36). -/
  rateFactor : Rat
  /-- `pitch_wheel_offset`, DAC units (R37). -/
  pitchWheelOffset : Rat
  /-- `output_value` (R38). -/
  outputValue : Sample
  /-- `last_written`; `none` is the spec's `NONE` (R39). -/
  lastWritten : Option Sample
  deriving DecidableEq, Repr

/-- The engine's registers at reset, with `GLIDE_MODE` already at its reset value (R53, 70_reset_and_hazards.md R280). -/
def Engine.reset (p : Params) : Engine where
  currentNote := p.initNote
  beginNote := p.initNote
  endNote := p.initNote
  beginTick := 0
  endTick := 0
  rateFactor := 0
  pitchWheelOffset := 0
  outputValue := convert p (outNote p.cfgReset.glideMode p.initNote) 0
  lastWritten := none

/-! ## The output ports (10_state.md R20) -/

/-- The tuple `(chan, status, data1, data2, len)` of the `msg_*` ports (30_encoding.md R88). -/
structure Msg where
  chan : Chan
  status : Byte
  data1 : Data7
  data2 : Data7
  len : BitVec 2
  deriving DecidableEq, Repr

/-- The output ports that belong to one event. `none` is: not driven in this event (assumption 4). -/
structure Outputs where
  /-- `msg_valid` and the tuple. -/
  msg : Option Msg
  /-- `dac_req` and `dac_data`. -/
  dac : Option Sample
  /-- `cfg_accepted`. -/
  cfgAccepted : Option Bool
  /-- `cfg_rdata`. -/
  cfgRdata : Option CfgWord
  deriving DecidableEq, Repr

/-- No port driven: the start of every event (R20). -/
def Outputs.quiet : Outputs where
  msg := none
  dac := none
  cfgAccepted := none
  cfgRdata := none

/-- The ports in a `RESET` event: `msg_valid = 0, dac_req = 0, cfg_accepted = 0` (70_reset_and_hazards.md R280). -/
def Outputs.reset : Outputs where
  msg := none
  dac := none
  cfgAccepted := some false
  cfgRdata := none

/-! ## The machine -/

/-- Everything the spec gives the block, and the model's own `params` and `input`. -/
structure State where
  /-- `dec[0]` (R24). -/
  dec0 : Decoder
  /-- `dec[1]` (R24). -/
  dec1 : Decoder
  /-- The engine's registers (R31). -/
  eng : Engine
  /-- `now`, microseconds (R40). -/
  now : Nat
  /-- `beat_count` (R41). -/
  beatCount : BitVec 5
  /-- The configuration registers (R42). -/
  cfg : CfgRegs
  /-- The output ports of the last event (R20). -/
  out : Outputs
  /-- The MODEL's own: the parameters of 00_scope.md R7, which no event changes (R51; assumption 2). -/
  params : Params
  /-- The MODEL's own: the events the environment will present, in order (assumption 1). -/
  input : List RawEvent
  deriving DecidableEq, Repr

/-- Why the machine stops with a fault: never. "The block raises no exception and has no trap" (60_exceptions.md R250), so the
type has no constructor. -/
inductive Fault
  deriving DecidableEq, Repr

/-- Why a step has no meaning. -/
inductive Refusal where
  /-- An instruction whose arm of `exec` gives no meaning yet. Raised by no arm of this model. Safe. -/
  | notModelled (mnemonic : String)
  /-- `step` found a raw event that is none of 30_encoding.md R93's. Safe: no legal run presents one. -/
  | notAnEvent (why : EventError)
  /-- `TIME(0)`: "`d = 0` is not a legal event" (43_config_time.md R226); 93_implementation_defined.md item 15 says refuse. Raised
  by `execTime`. Safe. -/
  | timeDeltaZero
  deriving DecidableEq, Repr

/-- The state after a `RESET` with the parameters `p` and the events `input` still to come (R53, 70_reset_and_hazards.md
R280). -/
def State.resetWith (p : Params) (input : List RawEvent) : State where
  dec0 := Decoder.reset
  dec1 := Decoder.reset
  eng := Engine.reset p
  now := 0
  beatCount := 0#5
  cfg := p.cfgReset
  out := Outputs.reset
  params := p
  input := input

/-- The machine right after reset, with the chip's parameters and no event waiting. -/
def State.reset : State := State.resetWith Config.chip []

end Sys2Proof.Machine
end

