-- ==== Sys2Proof/Machine/Flags.lean ====
section
/-! DEFINITION. The block has no flags or condition codes (10_state.md R23). The one-bit facts the spec names are functions of
registers and stand here; no rule reads them. -/

namespace Sys2Proof.Machine

/-- "decoder `c` is idle" is `bytes_expected = 0` (R23, R29). -/
def Decoder.isIdle (r : Decoder) : Bool := decide (r.bytesExpected = 0#2)

/-- "running status is held" is `running_status ≠ NONE` (R23, R25). -/
def Decoder.holdsRunningStatus (r : Decoder) : Bool := decide (r.runningStatus ≠ 0#8)

/-- "no sample has been written" is `last_written = NONE` (R23, R39). -/
def Engine.noSampleWritten (e : Engine) : Bool := e.lastWritten.isNone

/-- The engine's phase, a function of its registers (R49). -/
inductive Phase where
  | idle
  | gliding
  deriving DecidableEq, Repr

/-- `Idle` when `current_note = end_note`, `Gliding` otherwise (R49). -/
def Engine.phase (e : Engine) : Phase := if e.currentNote = e.endNote then .idle else .gliding

end Sys2Proof.Machine
end

