-- ==== Sys2Proof/Machine/Operands.lean ====
section
/-! DEFINITION. The byte map and the operands of messages: `CLASS`, `KIND` and `LEN` of 30_encoding.md R87, the operand assembly
of its R89, and the channel filter of 41_router.md R158. -/

namespace Sys2Proof.Machine

/-- The five byte classes of 30_encoding.md R87. -/
inductive ByteClass where
  | data
  | channelVoice
  | systemCommon
  | realTime
  | undefined
  deriving DecidableEq, Repr

/-- `CLASS(b)`, total over the 256 bytes (R87). -/
def classOf (b : Byte) : ByteClass :=
  if b.msb = false then .data
  else if b ≤ 0xEF#8 then .channelVoice
  else if b = 0xF0#8 ∨ b = 0xF1#8 ∨ b = 0xF2#8 ∨ b = 0xF3#8 ∨ b = 0xF9#8 then .systemCommon
  else if b = 0xF4#8 ∨ b = 0xF5#8 then .undefined
  else .realTime

/-- The code of a kind (10_state.md R26). -/
def Kind.code : Kind → BitVec 4
  | .idle => 0#4
  | .noteOff => 1#4
  | .noteOn => 2#4
  | .polyAt => 3#4
  | .cc => 4#4
  | .pc => 5#4
  | .chanAt => 6#4
  | .pitchWheel => 7#4
  | .sysexStart => 8#4
  | .quarterFrame => 9#4
  | .songPos => 10#4
  | .songSel => 11#4
  | .measureEnd => 12#4

/-- A channel-voice kind, codes 1..7 (R26). -/
def Kind.isChannelVoice : Kind → Bool
  | .noteOff | .noteOn | .polyAt | .cc | .pc | .chanAt | .pitchWheel => true
  | .idle | .sysexStart | .quarterFrame | .songPos | .songSel | .measureEnd => false

/-- `LEN(k)`, the length of a message of kind `k` in bytes, status included (R87). -/
def Kind.len : Kind → BitVec 2
  | .noteOff | .noteOn | .polyAt | .cc | .pitchWheel | .sysexStart | .songPos => 3#2
  | .pc | .chanAt | .quarterFrame | .songSel | .measureEnd => 2#2
  | .idle => 0#2

/-- `KIND(b)`, the kind a channel-voice or system common status byte opens (R87). R87 gives no kind to the other bytes, and no
rule asks for one: `idle` stands for "no kind". -/
def kindOf (b : Byte) : Kind :=
  match b.toNat / 16 with
  | 8 => .noteOff
  | 9 => .noteOn
  | 10 => .polyAt
  | 11 => .cc
  | 12 => .pc
  | 13 => .chanAt
  | 14 => .pitchWheel
  | 15 =>
    match b.toNat % 16 with
    | 0 => .sysexStart
    | 1 => .quarterFrame
    | 2 => .songPos
    | 3 => .songSel
    | 9 => .measureEnd
    | _ => .idle
  | _ => .idle

/-- The type nibble `status[7:4]` (R81). -/
def typeNibble (status : Byte) : Nibble := status.extractLsb' 4 4

/-- The MIDI channel nibble `status[3:0]` (R81). -/
def channelNibble (status : Byte) : Nibble := status.extractLsb' 0 4

/-- The 14-bit pitch-wheel value `data2 * 128 + data1` (R89, 20_memory.md R63). -/
def value14 (data1 data2 : Data7) : Nat := data2.toNat * 128 + data1.toNat

/-- `FILTER_c` (41_router.md R158). -/
def channelFilter (r : CfgRegs) : Chan → BitVec 5
  | .ch0 => r.filter0
  | .ch1 => r.filter1

/-- `PASS(c, s)` (41_router.md R158). -/
def pass (r : CfgRegs) (c : Chan) (status : Byte) : Bool :=
  decide ((channelFilter r c).toNat = 0) || decide ((channelFilter r c).toNat = (channelNibble status).toNat + 1)

end Sys2Proof.Machine
end

