-- ==== Sys2Proof/Machine/Ops.lean ====
section
/-! DEFINITION. The shared operations: the accessors of State, the Channel Decoder's procedures (40_decoder.md), the Message
Router (41_router.md), the Glide/Pitch Engine's operations (42_engine.md), and the port events' (43_config_time.md,
70_reset_and_hazards.md). Taking an exception is no operation of this block: it has no trap, no trap entry and no trap return
(60_exceptions.md R250, R256, R257). -/

namespace Sys2Proof.Machine

/-! ## Accessors -/

/-- `dec[c]` (10_state.md R24). -/
def State.dec (s : State) : Chan → Decoder
  | .ch0 => s.dec0
  | .ch1 => s.dec1

/-- Write the registers of `dec[c]`, and of no other decoder (R24). -/
def State.setDec (s : State) (c : Chan) (r : Decoder) : State :=
  match c with
  | .ch0 => { s with dec0 := r }
  | .ch1 => { s with dec1 := r }

/-- The start of an event: the ports that belong to one event are not driven (R20). -/
def State.beginEvent (s : State) : State := { s with out := Outputs.quiet }

/-- `emit m`: drive the `msg_*` ports (40_decoder.md R110). -/
def State.emit (s : State) (m : Msg) : State := { s with out := { s.out with msg := some m } }

/-- `dac_write(v)`: drive `dac_req` and `dac_data` (42_engine.md R200). -/
def State.dacWrite (s : State) (v : Sample) : State := { s with out := { s.out with dac := some v } }

/-! ## The Channel Decoder -/

/-- `OPEN` for a status byte `b` of kind `k` (R113): a channel-voice status is latched as running status, a system common one
cancels it. The data slots are unchanged. -/
def Decoder.openMessage (r : Decoder) (k : Kind) (b : Byte) : Decoder :=
  { r with
    messageKind := k
    bytesExpected := k.len
    bytesReceived := 1#2
    runningStatus := if k.isChannelVoice then b else 0#8 }

/-- The store and the count of `DATA_BYTE` (R111). -/
def Decoder.store (r : Decoder) (d : Data7) : Decoder :=
  { r with
    data1 := if r.bytesReceived = 1#2 then d else r.data1
    data2 := if r.bytesReceived = 1#2 then r.data2 else d
    bytesReceived := r.bytesReceived + 1#2 }

/-- The status of the message being completed: the running status for a channel-voice kind, `SC_STATUS(k)` for a system common
one (R112). R112 gives none for `IDLE`: a free value (assumption 9). -/
def Decoder.messageStatus (r : Decoder) : Byte :=
  match r.messageKind with
  | .noteOff | .noteOn | .polyAt | .cc | .pc | .chanAt | .pitchWheel => r.runningStatus
  | .sysexStart => 0xF0#8
  | .quarterFrame => 0xF1#8
  | .songPos => 0xF2#8
  | .songSel => 0xF3#8
  | .measureEnd => 0xF9#8
  | .idle => Config.idleStatus r.data1 r.data2

/-- The message `COMPLETE` emits (R112; 30_encoding.md R88: `data2 = 0` in a two-byte message). -/
def Decoder.message (r : Decoder) (c : Chan) : Msg where
  chan := c
  status := r.messageStatus
  data1 := r.data1
  data2 := if r.messageKind.len = 3#2 then r.data2 else 0#7
  len := r.messageKind.len

/-- The registers after `COMPLETE` (R112): re-armed for running status, or idle. -/
def Decoder.afterComplete (r : Decoder) : Decoder :=
  if r.messageKind.isChannelVoice then { r with bytesReceived := 1#2 }
  else { r with messageKind := .idle, bytesExpected := 0#2, bytesReceived := 0#2 }

/-- `DATA_BYTE(c, d)`: the decoder's registers after it and the message it emits, if any (R111, R112). -/
def Decoder.dataByte (r : Decoder) (c : Chan) (d : Data7) : Decoder × Option Msg :=
  if r.bytesExpected = 0#2 then (r, none)
  else if (r.store d).bytesReceived = (r.store d).bytesExpected then
    ((r.store d).afterComplete, some ((r.store d).message c))
  else (r.store d, none)

/-! ## The Glide/Pitch Engine -/

/-- `RECOMPUTE()` for a note and an offset, in the mode of `GLIDE_MODE` (R194). -/
def recompute (s : State) (note off : Rat) : Sample := convert s.params (outNote s.cfg.glideMode note) off

/-- `dur` of `SET_TARGET(n)`, in microseconds (R181, R182). -/
def targetDuration (s : State) (n : Data7) : Nat :=
  glideDuration s.params.rateTable s.cfg.glideAmt (absRat ((n.toNat : Rat) - s.eng.currentNote))

/-- `SET_TARGET(n)` (R181), with the guard of the zero duration (R184). -/
def State.setTarget (s : State) (n : Data7) : State :=
  { s with
    eng :=
      { s.eng with
        beginNote := if targetDuration s n = 0 then (n.toNat : Rat) else s.eng.currentNote
        endNote := (n.toNat : Rat)
        beginTick := s.now
        endTick := s.now + targetDuration s n
        rateFactor :=
          if targetDuration s n = 0 then 0
          else ((n.toNat : Rat) - s.eng.currentNote) / (targetDuration s n : Rat) } }

/-- The note `TICK` gives `current_note` (R190). -/
def tickNote (s : State) : Rat :=
  if s.now > s.eng.endTick then s.eng.endNote
  else s.eng.beginNote + ((s.now : Rat) - (s.eng.beginTick : Rat)) * s.eng.rateFactor

/-- `TICK()` (R190). -/
def State.tick (s : State) : State :=
  { s with
    eng :=
      { s.eng with
        currentNote := tickNote s
        outputValue := recompute s (tickNote s) s.eng.pitchWheelOffset } }

/-- `PW_UPDATE(v)` (R196). -/
def State.pwUpdate (s : State) (v : Nat) : State :=
  { s with
    eng :=
      { s.eng with
        pitchWheelOffset := pitchOffset s.params s.cfg.pwRange v
        outputValue := recompute s s.eng.currentNote (pitchOffset s.params s.cfg.pwRange v) } }

/-- Record a successful DAC write (R200). -/
def State.setLastWritten (s : State) (v : Sample) : State := { s with eng := { s.eng with lastWritten := some v } }

/-- `FLUSH(ok)` (R200): write on change; record the write only when the Output Sink reports success. -/
def State.flush (s : State) (ok : Bool) : State :=
  if s.eng.lastWritten = some s.eng.outputValue then s
  else if ok then (s.dacWrite s.eng.outputValue).setLastWritten s.eng.outputValue
  else s.dacWrite s.eng.outputValue

/-! ## The Message Router -/

/-- `NOTE_ON_H(m)` (41_router.md R151). -/
def State.noteOnHandler (s : State) (m : Msg) : State :=
  if s.params.vel0IsNoteOff = true ∧ m.data2 = 0#7 then s else s.setTarget m.data1

/-- The handler of a channel-voice message that passed the filter, by its type nibble (R150): Note-On and pitch wheel act; Note-Off
(R152), Control-Change (R153), the aftertouches (R154) and Program-Change (R155) have no effect. -/
def State.routeVoice (s : State) (m : Msg) : State :=
  if typeNibble m.status = 0x9#4 then s.noteOnHandler m
  else if typeNibble m.status = 0xE#4 then s.pwUpdate (value14 m.data1 m.data2)
  else s

/-- `beat_count <- (beat_count + 1) mod 24` (R160). -/
def nextBeat (b : BitVec 5) : BitVec 5 := BitVec.ofNat 5 ((b.toNat + 1) % 24)

/-- The handlers of the real-time bytes (R159..R162). -/
def State.routeRealTime (s : State) (m : Msg) : State :=
  if m.status = 0xF8#8 ∧ s.cfg.clkSrc = m.chan.code then { s with beatCount := nextBeat s.beatCount }
  else if m.status = 0xFA#8 ∧ s.cfg.clkSrc = m.chan.code then { s with beatCount := 0#5 }
  else s

/-- `ROUTE(m)` (R150): system messages bypass the filter, system common ones have no effect (R157). The last two classes are
those of no emitted message, and R150 has no branch for them. -/
def State.route (s : State) (m : Msg) : State :=
  match classOf m.status with
  | .channelVoice => if pass s.cfg m.chan m.status then s.routeVoice m else s
  | .systemCommon => s
  | .realTime => s.routeRealTime m
  | .data => s
  | .undefined => s

/-! ## Byte events (40_decoder.md R110) -/

/-- Emit a message and route it in the same event (R110). -/
def State.deliver (s : State) : Option Msg → State
  | none => s
  | some m => (s.emit m).route m

/-- The event of a data byte. -/
def dataEvent (c : Chan) (d : Data7) (s : State) : State :=
  (s.beginEvent.setDec c ((s.dec c).dataByte c d).1).deliver ((s.dec c).dataByte c d).2

/-- The event of a channel-voice or system common status byte: nothing is emitted (R113). -/
def openEvent (c : Chan) (k : Kind) (b : Byte) (s : State) : State :=
  s.beginEvent.setDec c ((s.dec c).openMessage k b)

/-- The event of a real-time byte: no register of `dec[c]` is read or written (R126). -/
def realTimeEvent (c : Chan) (b : Byte) (s : State) : State :=
  s.beginEvent.deliver (some { chan := c, status := b, data1 := 0#7, data2 := 0#7, len := 1#2 })

/-- The event of an undefined status byte: `skip` (R136). -/
def ignoredEvent (s : State) : State := s.beginEvent

/-! ## The configuration port (43_config_time.md R220, R221) -/

/-- The registers after a write of `w` to address `a`, or `none` where the write is rejected (R220). Values outside the legal set
are rejected, not truncated (20_memory.md R65). -/
def cfgWritten (r : CfgRegs) (a : CfgAddr) (w : CfgWord) : Option CfgRegs :=
  match a.toNat with
  | 0 => if w.toNat ≤ 16 then some { r with filter0 := w.setWidth 5 } else none
  | 1 => if w.toNat ≤ 16 then some { r with filter1 := w.setWidth 5 } else none
  | 2 => if w.toNat ≤ 2 then some { r with clkSrc := w.setWidth 2 } else none
  | 3 => if w.toNat ≤ 24 then some { r with pwRange := w.setWidth 5 } else none
  | 4 => some { r with glideAmt := w }
  | 5 => if w.toNat ≤ 1 then some { r with glideMode := w.setWidth 1 } else none
  | _ => none

/-- The word a read of address `a` drives (R221). -/
def cfgReadWord (r : CfgRegs) (a : CfgAddr) : CfgWord :=
  match a.toNat with
  | 0 => r.filter0.setWidth 16
  | 1 => r.filter1.setWidth 16
  | 2 => r.clkSrc.setWidth 16
  | 3 => r.pwRange.setWidth 16
  | 4 => r.glideAmt
  | 5 => r.glideMode.setWidth 16
  | _ => 0#16

/-- Drive `cfg_accepted` (R220). -/
def State.setAccepted (s : State) (v : Bool) : State := { s with out := { s.out with cfgAccepted := some v } }

/-- Drive `cfg_rdata` (R221). -/
def State.setRdata (s : State) (v : CfgWord) : State := { s with out := { s.out with cfgRdata := some v } }

/-- Write the configuration registers. -/
def State.setCfg (s : State) (r : CfgRegs) : State := { s with cfg := r }

/-- `CFG_WRITE(a, w)`: applied whole or not at all (R220). -/
def State.cfgWriteOp (s : State) (a : CfgAddr) (w : CfgWord) : State :=
  match cfgWritten s.cfg a w with
  | some r => (s.setCfg r).setAccepted true
  | none => s.setAccepted false

/-! ## Time and reset (43_config_time.md R226, 70_reset_and_hazards.md R280) -/

/-- `now <- now + d` (R226). -/
def State.advance (s : State) (d : Nat) : State := { s with now := s.now + d }

/-- `RESET()` (R280): every register at its reset value; the parameters do not change, and the events the environment has still
to present stay. -/
def State.resetAll (s : State) : State := State.resetWith s.params s.input

/-! ## Taking an event -/

/-- The next event the environment presents, and the state without it (30_encoding.md R95: one event at a time; assumption 1). -/
def State.takeEvent (s : State) : Option (RawEvent × State) :=
  match s.input with
  | [] => none
  | e :: rest => some (e, { s with input := rest })

/-- The state with a raw event presented before every event already waiting. -/
def State.present (s : State) (e : RawEvent) : State := { s with input := e :: s.input }

end Sys2Proof.Machine
end

