-- ==== Sys2Proof/Machine/ChannelVoice.lean ====
section
/-! DEFINITION. The meanings of the channel-voice status bytes, each `OPEN(c, b)` with its kind (40_decoder.md R113..R120). -/

namespace Sys2Proof.Machine

/-- `NOTE_OFF`, status 0x80..0x8F (R114): opens a message of 3 bytes. -/
def execNoteOff (c : Chan) (n : Nibble) (s : State) : Host.Outcome State Fault Refusal :=
  .next (openEvent c .noteOff (statusByte 0x8#4 n) s)

/-- `NOTE_ON`, status 0x90..0x9F (R115): opens a message of 3 bytes. -/
def execNoteOn (c : Chan) (n : Nibble) (s : State) : Host.Outcome State Fault Refusal :=
  .next (openEvent c .noteOn (statusByte 0x9#4 n) s)

/-- `POLY_AT`, status 0xA0..0xAF (R116): opens a message of 3 bytes. -/
def execPolyAt (c : Chan) (n : Nibble) (s : State) : Host.Outcome State Fault Refusal :=
  .next (openEvent c .polyAt (statusByte 0xA#4 n) s)

/-- `CC`, status 0xB0..0xBF (R117): opens a message of 3 bytes. -/
def execCc (c : Chan) (n : Nibble) (s : State) : Host.Outcome State Fault Refusal :=
  .next (openEvent c .cc (statusByte 0xB#4 n) s)

/-- `PC`, status 0xC0..0xCF (R118): opens a message of 2 bytes. -/
def execPc (c : Chan) (n : Nibble) (s : State) : Host.Outcome State Fault Refusal :=
  .next (openEvent c .pc (statusByte 0xC#4 n) s)

/-- `CHAN_AT`, status 0xD0..0xDF (R119): opens a message of 2 bytes. -/
def execChanAt (c : Chan) (n : Nibble) (s : State) : Host.Outcome State Fault Refusal :=
  .next (openEvent c .chanAt (statusByte 0xD#4 n) s)

/-- `PITCH_WHEEL`, status 0xE0..0xEF (R120): opens a message of 3 bytes. -/
def execPitchWheel (c : Chan) (n : Nibble) (s : State) : Host.Outcome State Fault Refusal :=
  .next (openEvent c .pitchWheel (statusByte 0xE#4 n) s)

end Sys2Proof.Machine
end

