-- ==== Sys2Proof/Machine/DataByte.lean ====
section
/-! DEFINITION. The meaning of `DATA` (40_decoder.md R111, R112, then 41_router.md R150 where a message completes). -/

namespace Sys2Proof.Machine

/-- `DATA`, byte `0ddddddd` (R111): discarded while idle, else stored and counted; the last one completes the message. -/
def execData (c : Chan) (d : Data7) (s : State) : Host.Outcome State Fault Refusal :=
  .next (dataEvent c d s)

end Sys2Proof.Machine
end

