-- ==== Sys2Proof/Machine/PortEvents.lean ====
section
/-! DEFINITION. The meanings of the port events (42_engine.md R190, R200; 43_config_time.md R220, R221, R225, R226; 70_reset_and_hazards.md R280). -/

namespace Sys2Proof.Machine

/-- `REINIT(c)` (R225): `dec[c]` at its reset values, nothing else. -/
def execReinit (c : Chan) (s : State) : Host.Outcome State Fault Refusal :=
  .next (s.beginEvent.setDec c Decoder.reset)

/-- `GLIDE_TICK` (R190): the engine's `TICK` at the event's `now`. -/
def execGlideTick (s : State) : Host.Outcome State Fault Refusal :=
  .next s.beginEvent.tick

/-- `FLUSH_TICK(ok)` (R200): the engine's `FLUSH`. -/
def execFlushTick (ok : Bool) (s : State) : Host.Outcome State Fault Refusal :=
  .next (s.beginEvent.flush ok)

/-- `CFG_WRITE(a, w)` (R220). -/
def execCfgWrite (a : CfgAddr) (w : CfgWord) (s : State) : Host.Outcome State Fault Refusal :=
  .next (s.beginEvent.cfgWriteOp a w)

/-- `CFG_READ(a)` (R221): drives `cfg_rdata` and changes no register. -/
def execCfgRead (a : CfgAddr) (s : State) : Host.Outcome State Fault Refusal :=
  .next (s.beginEvent.setRdata (cfgReadWord s.cfg a))

/-- `TIME(d)` (R226): `now <- now + d`; `TIME(0)` is not a legal event and is refused by name. -/
def execTime (d : Nat) (s : State) : Host.Outcome State Fault Refusal :=
  if d = 0 then .refused .timeDeltaZero else .next (s.beginEvent.advance d)

/-- `RESET` (R280). -/
def execReset (s : State) : Host.Outcome State Fault Refusal :=
  .next s.resetAll

end Sys2Proof.Machine
end

