-- ==== Sys2Proof/Machine/RealTime.lean ====
section
/-! DEFINITION. The meanings of the real-time bytes, each `REALTIME(c, b)` (40_decoder.md R126..R135) and its routing (41_router.md R159..R162). -/

namespace Sys2Proof.Machine

/-- `RT_F6`, byte 0xF6 (R127): no handler (41_router.md R162). -/
def execRtF6 (c : Chan) (s : State) : Host.Outcome State Fault Refusal :=
  .next (realTimeEvent c 0xF6#8 s)

/-- `RT_F7`, byte 0xF7 (R128): no handler (41_router.md R162). -/
def execRtF7 (c : Chan) (s : State) : Host.Outcome State Fault Refusal :=
  .next (realTimeEvent c 0xF7#8 s)

/-- `TIMING_CLOCK`, byte 0xF8 (R129): advances `beat_count` from the selected clock source (41_router.md R160). -/
def execTimingClock (c : Chan) (s : State) : Host.Outcome State Fault Refusal :=
  .next (realTimeEvent c 0xF8#8 s)

/-- `START`, byte 0xFA (R130): clears `beat_count` from the selected clock source (41_router.md R161). -/
def execStart (c : Chan) (s : State) : Host.Outcome State Fault Refusal :=
  .next (realTimeEvent c 0xFA#8 s)

/-- `RT_FB`, byte 0xFB (R131): no handler (41_router.md R162). -/
def execRtFB (c : Chan) (s : State) : Host.Outcome State Fault Refusal :=
  .next (realTimeEvent c 0xFB#8 s)

/-- `RT_FC`, byte 0xFC (R132): no handler (41_router.md R162). -/
def execRtFC (c : Chan) (s : State) : Host.Outcome State Fault Refusal :=
  .next (realTimeEvent c 0xFC#8 s)

/-- `RT_FD`, byte 0xFD (R133): no handler (41_router.md R162). -/
def execRtFD (c : Chan) (s : State) : Host.Outcome State Fault Refusal :=
  .next (realTimeEvent c 0xFD#8 s)

/-- `RT_FE`, byte 0xFE (R134): no handler (41_router.md R162). -/
def execRtFE (c : Chan) (s : State) : Host.Outcome State Fault Refusal :=
  .next (realTimeEvent c 0xFE#8 s)

/-- `RT_FF`, byte 0xFF (R135): no handler (41_router.md R162); it resets nothing. -/
def execRtFF (c : Chan) (s : State) : Host.Outcome State Fault Refusal :=
  .next (realTimeEvent c 0xFF#8 s)

end Sys2Proof.Machine
end

