-- ==== Sys2Proof/Machine/SystemCommon.lean ====
section
/-! DEFINITION. The meanings of the system common status bytes, each `OPEN(c, b)` with its kind (40_decoder.md R113, R121..R125). -/

namespace Sys2Proof.Machine

/-- `SYSEX_START`, status 0xF0 (R121): opens a message of 3 bytes and cancels running status. -/
def execSysexStart (c : Chan) (s : State) : Host.Outcome State Fault Refusal :=
  .next (openEvent c .sysexStart 0xF0#8 s)

/-- `QUARTER_FRAME`, status 0xF1 (R122): opens a message of 2 bytes and cancels running status. -/
def execQuarterFrame (c : Chan) (s : State) : Host.Outcome State Fault Refusal :=
  .next (openEvent c .quarterFrame 0xF1#8 s)

/-- `SONG_POS`, status 0xF2 (R123): opens a message of 3 bytes and cancels running status. -/
def execSongPos (c : Chan) (s : State) : Host.Outcome State Fault Refusal :=
  .next (openEvent c .songPos 0xF2#8 s)

/-- `SONG_SEL`, status 0xF3 (R124): opens a message of 2 bytes and cancels running status. -/
def execSongSel (c : Chan) (s : State) : Host.Outcome State Fault Refusal :=
  .next (openEvent c .songSel 0xF3#8 s)

/-- `MEASURE_END`, status 0xF9 (R125): opens a message of 2 bytes and cancels running status. -/
def execMeasureEnd (c : Chan) (s : State) : Host.Outcome State Fault Refusal :=
  .next (openEvent c .measureEnd 0xF9#8 s)

end Sys2Proof.Machine
end

