-- ==== Sys2Proof/Machine/Undefined.lean ====
section
/-! DEFINITION. The meanings of the undefined status bytes: silently ignored (40_decoder.md R136, R137). -/

namespace Sys2Proof.Machine

/-- `UNDEF_F4`, status 0xF4 (R136): no register changes, nothing is emitted. -/
def execUndefF4 (_c : Chan) (s : State) : Host.Outcome State Fault Refusal :=
  .next (ignoredEvent s)

/-- `UNDEF_F5`, status 0xF5 (R137): no register changes, nothing is emitted. -/
def execUndefF5 (_c : Chan) (s : State) : Host.Outcome State Fault Refusal :=
  .next (ignoredEvent s)

end Sys2Proof.Machine
end

