-- ==== Sys2Proof/Machine/Dispatch.lean ====
section
/-! DEFINITION. One arm per constructor of `Instr`, each one direct call of its meaning. -/

namespace Sys2Proof.Machine

/-- What an event does to the block (30_encoding.md R93). -/
def exec (i : Instr) (s : State) : Host.Outcome State Fault Refusal :=
  match i with
  | .data c d => Sys2Proof.Machine.execData c d s
  | .noteOff c n => Sys2Proof.Machine.execNoteOff c n s
  | .noteOn c n => Sys2Proof.Machine.execNoteOn c n s
  | .polyAt c n => Sys2Proof.Machine.execPolyAt c n s
  | .cc c n => Sys2Proof.Machine.execCc c n s
  | .pc c n => Sys2Proof.Machine.execPc c n s
  | .chanAt c n => Sys2Proof.Machine.execChanAt c n s
  | .pitchWheel c n => Sys2Proof.Machine.execPitchWheel c n s
  | .sysexStart c => Sys2Proof.Machine.execSysexStart c s
  | .quarterFrame c => Sys2Proof.Machine.execQuarterFrame c s
  | .songPos c => Sys2Proof.Machine.execSongPos c s
  | .songSel c => Sys2Proof.Machine.execSongSel c s
  | .measureEnd c => Sys2Proof.Machine.execMeasureEnd c s
  | .undefF4 c => Sys2Proof.Machine.execUndefF4 c s
  | .undefF5 c => Sys2Proof.Machine.execUndefF5 c s
  | .rtF6 c => Sys2Proof.Machine.execRtF6 c s
  | .rtF7 c => Sys2Proof.Machine.execRtF7 c s
  | .timingClock c => Sys2Proof.Machine.execTimingClock c s
  | .start c => Sys2Proof.Machine.execStart c s
  | .rtFB c => Sys2Proof.Machine.execRtFB c s
  | .rtFC c => Sys2Proof.Machine.execRtFC c s
  | .rtFD c => Sys2Proof.Machine.execRtFD c s
  | .rtFE c => Sys2Proof.Machine.execRtFE c s
  | .rtFF c => Sys2Proof.Machine.execRtFF c s
  | .reinit c => Sys2Proof.Machine.execReinit c s
  | .glideTick => Sys2Proof.Machine.execGlideTick s
  | .flushTick ok => Sys2Proof.Machine.execFlushTick ok s
  | .cfgWrite a w => Sys2Proof.Machine.execCfgWrite a w s
  | .cfgRead a => Sys2Proof.Machine.execCfgRead a s
  | .time d => Sys2Proof.Machine.execTime d s
  | .reset => Sys2Proof.Machine.execReset s

end Sys2Proof.Machine
end

