-- ==== Sys2Proof/Machine/Step.lean ====
section
/-! DEFINITION. One step: take the next event the environment presents, decode it, run it to completion (30_encoding.md R95). -/

namespace Sys2Proof.Machine

/-- One step. With no event waiting the block waits for the next one and nothing changes (70_reset_and_hazards.md R282); a raw
event that is no event of 30_encoding.md R93 is refused by name. -/
def step (s : State) : Host.Outcome State Fault Refusal :=
  match s.takeEvent with
  | none => .next s
  | some (e, s') =>
    match decodeEvent e with
    | .ok i => exec i s'
    | .error why => .refused (.notAnEvent why)

/-- `s` with the instruction of a row of spec/opcode_table.json presented before every event already waiting, so that the very next
step runs it (assumptions 1 and 6). -/
def State.withFetchWord (s : State) (nbits w : Nat) : State := s.present (tableEvent nbits w)

end Sys2Proof.Machine
end

