-- ==== Sys2Proof/Laws/State.lean ====
section
/-! SUPPORT. One lemma per field per update of State, each true by `rfl`, so that no later proof unfolds a record update. -/

namespace Sys2Proof.Machine

/-! ## `dec` and `setDec` -/

@[simp] theorem State.setDec_dec (s : State) (c : Chan) (r : Decoder) : (s.setDec c r).dec c = r := by cases c <;> rfl
@[simp] theorem State.setDec_dec_other (s : State) (c : Chan) (r : Decoder) : (s.setDec c r).dec c.other = s.dec c.other := by
  cases c <;> rfl
@[simp] theorem State.setDec_dec_self (s : State) (c : Chan) : s.setDec c (s.dec c) = s := by cases c <;> rfl
@[simp] theorem State.setDec_eng (s : State) (c : Chan) (r : Decoder) : (s.setDec c r).eng = s.eng := by cases c <;> rfl
@[simp] theorem State.setDec_now (s : State) (c : Chan) (r : Decoder) : (s.setDec c r).now = s.now := by cases c <;> rfl
@[simp] theorem State.setDec_beatCount (s : State) (c : Chan) (r : Decoder) : (s.setDec c r).beatCount = s.beatCount := by cases c <;> rfl
@[simp] theorem State.setDec_cfg (s : State) (c : Chan) (r : Decoder) : (s.setDec c r).cfg = s.cfg := by cases c <;> rfl
@[simp] theorem State.setDec_out (s : State) (c : Chan) (r : Decoder) : (s.setDec c r).out = s.out := by cases c <;> rfl
@[simp] theorem State.setDec_params (s : State) (c : Chan) (r : Decoder) : (s.setDec c r).params = s.params := by cases c <;> rfl
@[simp] theorem State.setDec_input (s : State) (c : Chan) (r : Decoder) : (s.setDec c r).input = s.input := by cases c <;> rfl

/-! ## `beginEvent` -/

@[simp] theorem State.beginEvent_dec0 (s : State) : s.beginEvent.dec0 = s.dec0 := rfl
@[simp] theorem State.beginEvent_dec1 (s : State) : s.beginEvent.dec1 = s.dec1 := rfl
@[simp] theorem State.beginEvent_eng (s : State) : s.beginEvent.eng = s.eng := rfl
@[simp] theorem State.beginEvent_now (s : State) : s.beginEvent.now = s.now := rfl
@[simp] theorem State.beginEvent_beatCount (s : State) : s.beginEvent.beatCount = s.beatCount := rfl
@[simp] theorem State.beginEvent_cfg (s : State) : s.beginEvent.cfg = s.cfg := rfl
@[simp] theorem State.beginEvent_params (s : State) : s.beginEvent.params = s.params := rfl
@[simp] theorem State.beginEvent_input (s : State) : s.beginEvent.input = s.input := rfl
@[simp] theorem State.beginEvent_dec (s : State) (c : Chan) : s.beginEvent.dec c = s.dec c := by cases c <;> rfl
@[simp] theorem State.beginEvent_out (s : State) : s.beginEvent.out = Outputs.quiet := rfl

/-! ## `emit` -/

@[simp] theorem State.emit_dec0 (s : State) (m : Msg) : (s.emit m).dec0 = s.dec0 := rfl
@[simp] theorem State.emit_dec1 (s : State) (m : Msg) : (s.emit m).dec1 = s.dec1 := rfl
@[simp] theorem State.emit_eng (s : State) (m : Msg) : (s.emit m).eng = s.eng := rfl
@[simp] theorem State.emit_now (s : State) (m : Msg) : (s.emit m).now = s.now := rfl
@[simp] theorem State.emit_beatCount (s : State) (m : Msg) : (s.emit m).beatCount = s.beatCount := rfl
@[simp] theorem State.emit_cfg (s : State) (m : Msg) : (s.emit m).cfg = s.cfg := rfl
@[simp] theorem State.emit_params (s : State) (m : Msg) : (s.emit m).params = s.params := rfl
@[simp] theorem State.emit_input (s : State) (m : Msg) : (s.emit m).input = s.input := rfl
@[simp] theorem State.emit_dec (s : State) (m : Msg) (c : Chan) : (s.emit m).dec c = s.dec c := by cases c <;> rfl
@[simp] theorem State.emit_out_msg (s : State) (m : Msg) : (s.emit m).out.msg = some m := rfl
@[simp] theorem State.emit_out_dac (s : State) (m : Msg) : (s.emit m).out.dac = s.out.dac := rfl
@[simp] theorem State.emit_out_cfgAccepted (s : State) (m : Msg) : (s.emit m).out.cfgAccepted = s.out.cfgAccepted := rfl
@[simp] theorem State.emit_out_cfgRdata (s : State) (m : Msg) : (s.emit m).out.cfgRdata = s.out.cfgRdata := rfl

/-! ## `dacWrite` -/

@[simp] theorem State.dacWrite_dec0 (s : State) (v : Sample) : (s.dacWrite v).dec0 = s.dec0 := rfl
@[simp] theorem State.dacWrite_dec1 (s : State) (v : Sample) : (s.dacWrite v).dec1 = s.dec1 := rfl
@[simp] theorem State.dacWrite_eng (s : State) (v : Sample) : (s.dacWrite v).eng = s.eng := rfl
@[simp] theorem State.dacWrite_now (s : State) (v : Sample) : (s.dacWrite v).now = s.now := rfl
@[simp] theorem State.dacWrite_beatCount (s : State) (v : Sample) : (s.dacWrite v).beatCount = s.beatCount := rfl
@[simp] theorem State.dacWrite_cfg (s : State) (v : Sample) : (s.dacWrite v).cfg = s.cfg := rfl
@[simp] theorem State.dacWrite_params (s : State) (v : Sample) : (s.dacWrite v).params = s.params := rfl
@[simp] theorem State.dacWrite_input (s : State) (v : Sample) : (s.dacWrite v).input = s.input := rfl
@[simp] theorem State.dacWrite_dec (s : State) (v : Sample) (c : Chan) : (s.dacWrite v).dec c = s.dec c := by cases c <;> rfl
@[simp] theorem State.dacWrite_out_msg (s : State) (v : Sample) : (s.dacWrite v).out.msg = s.out.msg := rfl
@[simp] theorem State.dacWrite_out_dac (s : State) (v : Sample) : (s.dacWrite v).out.dac = some v := rfl
@[simp] theorem State.dacWrite_out_cfgAccepted (s : State) (v : Sample) :
    (s.dacWrite v).out.cfgAccepted =
      s.out.cfgAccepted := rfl
@[simp] theorem State.dacWrite_out_cfgRdata (s : State) (v : Sample) : (s.dacWrite v).out.cfgRdata = s.out.cfgRdata := rfl

/-! ## `setAccepted` -/

@[simp] theorem State.setAccepted_dec0 (s : State) (v : Bool) : (s.setAccepted v).dec0 = s.dec0 := rfl
@[simp] theorem State.setAccepted_dec1 (s : State) (v : Bool) : (s.setAccepted v).dec1 = s.dec1 := rfl
@[simp] theorem State.setAccepted_eng (s : State) (v : Bool) : (s.setAccepted v).eng = s.eng := rfl
@[simp] theorem State.setAccepted_now (s : State) (v : Bool) : (s.setAccepted v).now = s.now := rfl
@[simp] theorem State.setAccepted_beatCount (s : State) (v : Bool) : (s.setAccepted v).beatCount = s.beatCount := rfl
@[simp] theorem State.setAccepted_cfg (s : State) (v : Bool) : (s.setAccepted v).cfg = s.cfg := rfl
@[simp] theorem State.setAccepted_params (s : State) (v : Bool) : (s.setAccepted v).params = s.params := rfl
@[simp] theorem State.setAccepted_input (s : State) (v : Bool) : (s.setAccepted v).input = s.input := rfl
@[simp] theorem State.setAccepted_dec (s : State) (v : Bool) (c : Chan) : (s.setAccepted v).dec c = s.dec c := by cases c <;> rfl
@[simp] theorem State.setAccepted_out_msg (s : State) (v : Bool) : (s.setAccepted v).out.msg = s.out.msg := rfl
@[simp] theorem State.setAccepted_out_dac (s : State) (v : Bool) : (s.setAccepted v).out.dac = s.out.dac := rfl
@[simp] theorem State.setAccepted_out_cfgAccepted (s : State) (v : Bool) : (s.setAccepted v).out.cfgAccepted = some v := rfl
@[simp] theorem State.setAccepted_out_cfgRdata (s : State) (v : Bool) : (s.setAccepted v).out.cfgRdata = s.out.cfgRdata := rfl

/-! ## `setRdata` -/

@[simp] theorem State.setRdata_dec0 (s : State) (v : CfgWord) : (s.setRdata v).dec0 = s.dec0 := rfl
@[simp] theorem State.setRdata_dec1 (s : State) (v : CfgWord) : (s.setRdata v).dec1 = s.dec1 := rfl
@[simp] theorem State.setRdata_eng (s : State) (v : CfgWord) : (s.setRdata v).eng = s.eng := rfl
@[simp] theorem State.setRdata_now (s : State) (v : CfgWord) : (s.setRdata v).now = s.now := rfl
@[simp] theorem State.setRdata_beatCount (s : State) (v : CfgWord) : (s.setRdata v).beatCount = s.beatCount := rfl
@[simp] theorem State.setRdata_cfg (s : State) (v : CfgWord) : (s.setRdata v).cfg = s.cfg := rfl
@[simp] theorem State.setRdata_params (s : State) (v : CfgWord) : (s.setRdata v).params = s.params := rfl
@[simp] theorem State.setRdata_input (s : State) (v : CfgWord) : (s.setRdata v).input = s.input := rfl
@[simp] theorem State.setRdata_dec (s : State) (v : CfgWord) (c : Chan) : (s.setRdata v).dec c = s.dec c := by cases c <;> rfl
@[simp] theorem State.setRdata_out_msg (s : State) (v : CfgWord) : (s.setRdata v).out.msg = s.out.msg := rfl
@[simp] theorem State.setRdata_out_dac (s : State) (v : CfgWord) : (s.setRdata v).out.dac = s.out.dac := rfl
@[simp] theorem State.setRdata_out_cfgAccepted (s : State) (v : CfgWord) :
    (s.setRdata v).out.cfgAccepted =
      s.out.cfgAccepted := rfl
@[simp] theorem State.setRdata_out_cfgRdata (s : State) (v : CfgWord) : (s.setRdata v).out.cfgRdata = some v := rfl

/-! ## `setCfg` -/

@[simp] theorem State.setCfg_dec0 (s : State) (r : CfgRegs) : (s.setCfg r).dec0 = s.dec0 := rfl
@[simp] theorem State.setCfg_dec1 (s : State) (r : CfgRegs) : (s.setCfg r).dec1 = s.dec1 := rfl
@[simp] theorem State.setCfg_eng (s : State) (r : CfgRegs) : (s.setCfg r).eng = s.eng := rfl
@[simp] theorem State.setCfg_now (s : State) (r : CfgRegs) : (s.setCfg r).now = s.now := rfl
@[simp] theorem State.setCfg_beatCount (s : State) (r : CfgRegs) : (s.setCfg r).beatCount = s.beatCount := rfl
@[simp] theorem State.setCfg_out (s : State) (r : CfgRegs) : (s.setCfg r).out = s.out := rfl
@[simp] theorem State.setCfg_params (s : State) (r : CfgRegs) : (s.setCfg r).params = s.params := rfl
@[simp] theorem State.setCfg_input (s : State) (r : CfgRegs) : (s.setCfg r).input = s.input := rfl
@[simp] theorem State.setCfg_dec (s : State) (r : CfgRegs) (c : Chan) : (s.setCfg r).dec c = s.dec c := by cases c <;> rfl
@[simp] theorem State.setCfg_cfg (s : State) (r : CfgRegs) : (s.setCfg r).cfg = r := rfl

/-! ## `advance` -/

@[simp] theorem State.advance_dec0 (s : State) (d : Nat) : (s.advance d).dec0 = s.dec0 := rfl
@[simp] theorem State.advance_dec1 (s : State) (d : Nat) : (s.advance d).dec1 = s.dec1 := rfl
@[simp] theorem State.advance_eng (s : State) (d : Nat) : (s.advance d).eng = s.eng := rfl
@[simp] theorem State.advance_beatCount (s : State) (d : Nat) : (s.advance d).beatCount = s.beatCount := rfl
@[simp] theorem State.advance_cfg (s : State) (d : Nat) : (s.advance d).cfg = s.cfg := rfl
@[simp] theorem State.advance_out (s : State) (d : Nat) : (s.advance d).out = s.out := rfl
@[simp] theorem State.advance_params (s : State) (d : Nat) : (s.advance d).params = s.params := rfl
@[simp] theorem State.advance_input (s : State) (d : Nat) : (s.advance d).input = s.input := rfl
@[simp] theorem State.advance_dec (s : State) (d : Nat) (c : Chan) : (s.advance d).dec c = s.dec c := by cases c <;> rfl
@[simp] theorem State.advance_now (s : State) (d : Nat) : (s.advance d).now = s.now + d := rfl

/-! ## `setTarget` -/

@[simp] theorem State.setTarget_dec0 (s : State) (n : Data7) : (s.setTarget n).dec0 = s.dec0 := rfl
@[simp] theorem State.setTarget_dec1 (s : State) (n : Data7) : (s.setTarget n).dec1 = s.dec1 := rfl
@[simp] theorem State.setTarget_now (s : State) (n : Data7) : (s.setTarget n).now = s.now := rfl
@[simp] theorem State.setTarget_beatCount (s : State) (n : Data7) : (s.setTarget n).beatCount = s.beatCount := rfl
@[simp] theorem State.setTarget_cfg (s : State) (n : Data7) : (s.setTarget n).cfg = s.cfg := rfl
@[simp] theorem State.setTarget_out (s : State) (n : Data7) : (s.setTarget n).out = s.out := rfl
@[simp] theorem State.setTarget_params (s : State) (n : Data7) : (s.setTarget n).params = s.params := rfl
@[simp] theorem State.setTarget_input (s : State) (n : Data7) : (s.setTarget n).input = s.input := rfl
@[simp] theorem State.setTarget_dec (s : State) (n : Data7) (c : Chan) : (s.setTarget n).dec c = s.dec c := by cases c <;> rfl
@[simp] theorem State.setTarget_eng_currentNote (s : State) (n : Data7) :
    (s.setTarget n).eng.currentNote =
      s.eng.currentNote := rfl
@[simp] theorem State.setTarget_eng_endNote (s : State) (n : Data7) : (s.setTarget n).eng.endNote = (n.toNat : Rat) := rfl
@[simp] theorem State.setTarget_eng_beginTick (s : State) (n : Data7) : (s.setTarget n).eng.beginTick = s.now := rfl
@[simp] theorem State.setTarget_eng_endTick (s : State) (n : Data7) :
    (s.setTarget n).eng.endTick =
      s.now + targetDuration s n := rfl
@[simp] theorem State.setTarget_eng_pitchWheelOffset (s : State) (n : Data7) :
    (s.setTarget n).eng.pitchWheelOffset =
      s.eng.pitchWheelOffset := rfl
@[simp] theorem State.setTarget_eng_outputValue (s : State) (n : Data7) :
    (s.setTarget n).eng.outputValue =
      s.eng.outputValue := rfl
@[simp] theorem State.setTarget_eng_lastWritten (s : State) (n : Data7) :
    (s.setTarget n).eng.lastWritten =
      s.eng.lastWritten := rfl
@[simp] theorem State.setTarget_eng_beginNote (s : State) (n : Data7) :
    (s.setTarget n).eng.beginNote =
      (if targetDuration s n = 0 then (n.toNat : Rat) else s.eng.currentNote) := rfl
@[simp] theorem State.setTarget_eng_rateFactor (s : State) (n : Data7) :
    (s.setTarget n).eng.rateFactor =
      (if targetDuration s n = 0 then 0 else ((n.toNat : Rat) - s.eng.currentNote) / (targetDuration s n : Rat)) := rfl

/-! ## `tick` -/

@[simp] theorem State.tick_dec0 (s : State) : s.tick.dec0 = s.dec0 := rfl
@[simp] theorem State.tick_dec1 (s : State) : s.tick.dec1 = s.dec1 := rfl
@[simp] theorem State.tick_now (s : State) : s.tick.now = s.now := rfl
@[simp] theorem State.tick_beatCount (s : State) : s.tick.beatCount = s.beatCount := rfl
@[simp] theorem State.tick_cfg (s : State) : s.tick.cfg = s.cfg := rfl
@[simp] theorem State.tick_out (s : State) : s.tick.out = s.out := rfl
@[simp] theorem State.tick_params (s : State) : s.tick.params = s.params := rfl
@[simp] theorem State.tick_input (s : State) : s.tick.input = s.input := rfl
@[simp] theorem State.tick_dec (s : State) (c : Chan) : s.tick.dec c = s.dec c := by cases c <;> rfl
@[simp] theorem State.tick_eng_currentNote (s : State) : s.tick.eng.currentNote = tickNote s := rfl
@[simp] theorem State.tick_eng_beginNote (s : State) : s.tick.eng.beginNote = s.eng.beginNote := rfl
@[simp] theorem State.tick_eng_endNote (s : State) : s.tick.eng.endNote = s.eng.endNote := rfl
@[simp] theorem State.tick_eng_beginTick (s : State) : s.tick.eng.beginTick = s.eng.beginTick := rfl
@[simp] theorem State.tick_eng_endTick (s : State) : s.tick.eng.endTick = s.eng.endTick := rfl
@[simp] theorem State.tick_eng_rateFactor (s : State) : s.tick.eng.rateFactor = s.eng.rateFactor := rfl
@[simp] theorem State.tick_eng_pitchWheelOffset (s : State) : s.tick.eng.pitchWheelOffset = s.eng.pitchWheelOffset := rfl
@[simp] theorem State.tick_eng_outputValue (s : State) :
    s.tick.eng.outputValue =
      recompute s (tickNote s) s.eng.pitchWheelOffset := rfl
@[simp] theorem State.tick_eng_lastWritten (s : State) : s.tick.eng.lastWritten = s.eng.lastWritten := rfl

/-! ## `pwUpdate` -/

@[simp] theorem State.pwUpdate_dec0 (s : State) (v : Nat) : (s.pwUpdate v).dec0 = s.dec0 := rfl
@[simp] theorem State.pwUpdate_dec1 (s : State) (v : Nat) : (s.pwUpdate v).dec1 = s.dec1 := rfl
@[simp] theorem State.pwUpdate_now (s : State) (v : Nat) : (s.pwUpdate v).now = s.now := rfl
@[simp] theorem State.pwUpdate_beatCount (s : State) (v : Nat) : (s.pwUpdate v).beatCount = s.beatCount := rfl
@[simp] theorem State.pwUpdate_cfg (s : State) (v : Nat) : (s.pwUpdate v).cfg = s.cfg := rfl
@[simp] theorem State.pwUpdate_out (s : State) (v : Nat) : (s.pwUpdate v).out = s.out := rfl
@[simp] theorem State.pwUpdate_params (s : State) (v : Nat) : (s.pwUpdate v).params = s.params := rfl
@[simp] theorem State.pwUpdate_input (s : State) (v : Nat) : (s.pwUpdate v).input = s.input := rfl
@[simp] theorem State.pwUpdate_dec (s : State) (v : Nat) (c : Chan) : (s.pwUpdate v).dec c = s.dec c := by cases c <;> rfl
@[simp] theorem State.pwUpdate_eng_currentNote (s : State) (v : Nat) :
    (s.pwUpdate v).eng.currentNote =
      s.eng.currentNote := rfl
@[simp] theorem State.pwUpdate_eng_beginNote (s : State) (v : Nat) : (s.pwUpdate v).eng.beginNote = s.eng.beginNote := rfl
@[simp] theorem State.pwUpdate_eng_endNote (s : State) (v : Nat) : (s.pwUpdate v).eng.endNote = s.eng.endNote := rfl
@[simp] theorem State.pwUpdate_eng_beginTick (s : State) (v : Nat) : (s.pwUpdate v).eng.beginTick = s.eng.beginTick := rfl
@[simp] theorem State.pwUpdate_eng_endTick (s : State) (v : Nat) : (s.pwUpdate v).eng.endTick = s.eng.endTick := rfl
@[simp] theorem State.pwUpdate_eng_rateFactor (s : State) (v : Nat) : (s.pwUpdate v).eng.rateFactor = s.eng.rateFactor := rfl
@[simp] theorem State.pwUpdate_eng_pitchWheelOffset (s : State) (v : Nat) :
    (s.pwUpdate v).eng.pitchWheelOffset =
      pitchOffset s.params s.cfg.pwRange v := rfl
@[simp] theorem State.pwUpdate_eng_outputValue (s : State) (v : Nat) :
    (s.pwUpdate v).eng.outputValue =
      recompute s s.eng.currentNote (pitchOffset s.params s.cfg.pwRange v) := rfl
@[simp] theorem State.pwUpdate_eng_lastWritten (s : State) (v : Nat) :
    (s.pwUpdate v).eng.lastWritten =
      s.eng.lastWritten := rfl

/-! ## `setLastWritten` -/

@[simp] theorem State.setLastWritten_dec0 (s : State) (v : Sample) : (s.setLastWritten v).dec0 = s.dec0 := rfl
@[simp] theorem State.setLastWritten_dec1 (s : State) (v : Sample) : (s.setLastWritten v).dec1 = s.dec1 := rfl
@[simp] theorem State.setLastWritten_now (s : State) (v : Sample) : (s.setLastWritten v).now = s.now := rfl
@[simp] theorem State.setLastWritten_beatCount (s : State) (v : Sample) : (s.setLastWritten v).beatCount = s.beatCount := rfl
@[simp] theorem State.setLastWritten_cfg (s : State) (v : Sample) : (s.setLastWritten v).cfg = s.cfg := rfl
@[simp] theorem State.setLastWritten_out (s : State) (v : Sample) : (s.setLastWritten v).out = s.out := rfl
@[simp] theorem State.setLastWritten_params (s : State) (v : Sample) : (s.setLastWritten v).params = s.params := rfl
@[simp] theorem State.setLastWritten_input (s : State) (v : Sample) : (s.setLastWritten v).input = s.input := rfl
@[simp] theorem State.setLastWritten_dec (s : State) (v : Sample) (c : Chan) : (s.setLastWritten v).dec c = s.dec c := by cases c <;> rfl
@[simp] theorem State.setLastWritten_eng_currentNote (s : State) (v : Sample) :
    (s.setLastWritten v).eng.currentNote =
      s.eng.currentNote := rfl
@[simp] theorem State.setLastWritten_eng_beginNote (s : State) (v : Sample) :
    (s.setLastWritten v).eng.beginNote =
      s.eng.beginNote := rfl
@[simp] theorem State.setLastWritten_eng_endNote (s : State) (v : Sample) :
    (s.setLastWritten v).eng.endNote =
      s.eng.endNote := rfl
@[simp] theorem State.setLastWritten_eng_beginTick (s : State) (v : Sample) :
    (s.setLastWritten v).eng.beginTick =
      s.eng.beginTick := rfl
@[simp] theorem State.setLastWritten_eng_endTick (s : State) (v : Sample) :
    (s.setLastWritten v).eng.endTick =
      s.eng.endTick := rfl
@[simp] theorem State.setLastWritten_eng_rateFactor (s : State) (v : Sample) :
    (s.setLastWritten v).eng.rateFactor =
      s.eng.rateFactor := rfl
@[simp] theorem State.setLastWritten_eng_pitchWheelOffset (s : State) (v : Sample) :
    (s.setLastWritten v).eng.pitchWheelOffset =
      s.eng.pitchWheelOffset := rfl
@[simp] theorem State.setLastWritten_eng_outputValue (s : State) (v : Sample) :
    (s.setLastWritten v).eng.outputValue =
      s.eng.outputValue := rfl
@[simp] theorem State.setLastWritten_eng_lastWritten (s : State) (v : Sample) :
    (s.setLastWritten v).eng.lastWritten =
      some v := rfl

end Sys2Proof.Machine
end

