-- ==== Sys2Proof/Laws/Ops.lean ====
section
/-! SUPPORT. For each shared operation, one lemma that says all it can do. -/

namespace Sys2Proof.Machine

/-! ## The Channel Decoder -/

/-- All that `DATA_BYTE` can do: discard while idle, store, or store and complete. -/
theorem Decoder.dataByte_cases (r : Decoder) (c : Chan) (d : Data7) :
    (r.bytesExpected = 0#2 ∧ r.dataByte c d = (r, none)) ∨
    (r.bytesExpected ≠ 0#2 ∧ r.bytesReceived + 1#2 ≠ r.bytesExpected ∧ r.dataByte c d = (r.store d, none)) ∨
    (r.bytesExpected ≠ 0#2 ∧ r.bytesReceived + 1#2 = r.bytesExpected ∧
      r.dataByte c d = ((r.store d).afterComplete, some ((r.store d).message c))) := by
  unfold Decoder.dataByte
  by_cases h : r.bytesExpected = 0#2
  · exact .inl ⟨h, if_pos h⟩
  · rw [if_neg h]
    by_cases h' : (r.store d).bytesReceived = (r.store d).bytesExpected
    · exact .inr (.inr ⟨h, h', if_pos h'⟩)
    · exact .inr (.inl ⟨h, h', if_neg h'⟩)

/-- All that `COMPLETE` can do to the registers. -/
theorem Decoder.afterComplete_cases (r : Decoder) :
    (r.messageKind.isChannelVoice = true ∧ r.afterComplete = { r with bytesReceived := 1#2 }) ∨
    (r.messageKind.isChannelVoice = false ∧
      r.afterComplete = { r with messageKind := .idle, bytesExpected := 0#2, bytesReceived := 0#2 }) := by
  unfold Decoder.afterComplete
  cases h : r.messageKind.isChannelVoice
  · exact .inr ⟨rfl, by simp⟩
  · exact .inl ⟨rfl, by simp⟩

@[simp] theorem Decoder.store_messageKind (r : Decoder) (d : Data7) : (r.store d).messageKind = r.messageKind := rfl
@[simp] theorem Decoder.store_runningStatus (r : Decoder) (d : Data7) : (r.store d).runningStatus = r.runningStatus := rfl
@[simp] theorem Decoder.store_bytesExpected (r : Decoder) (d : Data7) : (r.store d).bytesExpected = r.bytesExpected := rfl
@[simp] theorem Decoder.store_bytesReceived (r : Decoder) (d : Data7) :
    (r.store d).bytesReceived = r.bytesReceived + 1#2 := rfl
@[simp] theorem Decoder.openMessage_messageKind (r : Decoder) (k : Kind) (b : Byte) : (r.openMessage k b).messageKind = k := rfl
@[simp] theorem Decoder.openMessage_bytesExpected (r : Decoder) (k : Kind) (b : Byte) :
    (r.openMessage k b).bytesExpected = k.len := rfl
@[simp] theorem Decoder.openMessage_bytesReceived (r : Decoder) (k : Kind) (b : Byte) :
    (r.openMessage k b).bytesReceived = 1#2 := rfl
@[simp] theorem Decoder.openMessage_data1 (r : Decoder) (k : Kind) (b : Byte) : (r.openMessage k b).data1 = r.data1 := rfl
@[simp] theorem Decoder.openMessage_data2 (r : Decoder) (k : Kind) (b : Byte) : (r.openMessage k b).data2 = r.data2 := rfl

/-! ## The Message Router -/

/-- All that `ROUTE` can do: nothing, `SET_TARGET`, `PW_UPDATE`, count a clock, or clear the count. -/
theorem State.route_cases (s : State) (m : Msg) :
    s.route m = s ∨
    (classOf m.status = .channelVoice ∧ pass s.cfg m.chan m.status = true ∧ typeNibble m.status = 0x9#4 ∧
      s.route m = s.setTarget m.data1) ∨
    (classOf m.status = .channelVoice ∧ pass s.cfg m.chan m.status = true ∧ typeNibble m.status = 0xE#4 ∧
      s.route m = s.pwUpdate (value14 m.data1 m.data2)) ∨
    (m.status = 0xF8#8 ∧ s.cfg.clkSrc = m.chan.code ∧ s.route m = { s with beatCount := nextBeat s.beatCount }) ∨
    (m.status = 0xFA#8 ∧ s.cfg.clkSrc = m.chan.code ∧ s.route m = { s with beatCount := 0#5 }) := by
  unfold State.route
  cases hc : classOf m.status
  case data => exact .inl rfl
  case systemCommon => exact .inl rfl
  case undefined => exact .inl rfl
  case channelVoice =>
    simp only [State.routeVoice, State.noteOnHandler]
    by_cases hp : pass s.cfg m.chan m.status = true
    · rw [if_pos hp]
      split
      · split
        · exact .inl rfl
        · exact .inr (.inl ⟨trivial, hp, ‹_›, rfl⟩)
      · split
        · exact .inr (.inr (.inl ⟨trivial, hp, ‹_›, rfl⟩))
        · exact .inl rfl
    · rw [if_neg hp]; exact .inl rfl
  case realTime =>
    simp only [State.routeRealTime]
    split
    · rename_i h; exact .inr (.inr (.inr (.inl ⟨h.1, h.2, rfl⟩)))
    · split
      · rename_i h; exact .inr (.inr (.inr (.inr ⟨h.1, h.2, rfl⟩)))
      · exact .inl rfl

/-- The router writes only the engine and `beat_count` (41_router.md R163). -/
theorem State.route_frame (s : State) (m : Msg) :
    (s.route m).dec0 = s.dec0 ∧ (s.route m).dec1 = s.dec1 ∧ (s.route m).now = s.now ∧ (s.route m).cfg = s.cfg ∧
      (s.route m).out = s.out ∧ (s.route m).params = s.params ∧ (s.route m).input = s.input := by
  obtain h | ⟨-, -, -, h⟩ | ⟨-, -, -, h⟩ | ⟨-, -, h⟩ | ⟨-, -, h⟩ := s.route_cases m <;> rw [h] <;>
    exact ⟨rfl, rfl, rfl, rfl, rfl, rfl, rfl⟩

/-- `deliver` drives the message ports and routes; it writes no decoder, time, configuration, parameter or input. -/
theorem State.deliver_frame (s : State) (o : Option Msg) :
    (s.deliver o).dec0 = s.dec0 ∧ (s.deliver o).dec1 = s.dec1 ∧ (s.deliver o).now = s.now ∧ (s.deliver o).cfg = s.cfg ∧
      (s.deliver o).params = s.params ∧ (s.deliver o).input = s.input := by
  cases o with
  | none => exact ⟨rfl, rfl, rfl, rfl, rfl, rfl⟩
  | some m =>
    obtain ⟨h0, h1, h2, h3, -, h5, h6⟩ := (s.emit m).route_frame m
    exact ⟨h0, h1, h2, h3, h5, h6⟩

@[simp] theorem State.deliver_dec (s : State) (o : Option Msg) (c : Chan) : (s.deliver o).dec c = s.dec c := by
  obtain ⟨h0, h1, -⟩ := s.deliver_frame o
  cases c
  · exact h0
  · exact h1

/-- The ports after `deliver`: the message, and no other port. -/
theorem State.deliver_out (s : State) (o : Option Msg) (h : s.out = Outputs.quiet) :
    (s.deliver o).out = { Outputs.quiet with msg := o } := by
  cases o with
  | none => rw [State.deliver, h]; rfl
  | some m => rw [State.deliver, ((s.emit m).route_frame m).2.2.2.2.1, State.emit, h]

/-! ## The engine -/

/-- All that `FLUSH` can do: nothing, a recorded write, or a failed one. -/
theorem State.flush_cases (s : State) (ok : Bool) :
    (s.eng.lastWritten = some s.eng.outputValue ∧ s.flush ok = s) ∨
    (s.eng.lastWritten ≠ some s.eng.outputValue ∧ ok = true ∧
      s.flush ok = (s.dacWrite s.eng.outputValue).setLastWritten s.eng.outputValue) ∨
    (s.eng.lastWritten ≠ some s.eng.outputValue ∧ ok = false ∧ s.flush ok = s.dacWrite s.eng.outputValue) := by
  unfold State.flush
  by_cases h : s.eng.lastWritten = some s.eng.outputValue
  · exact .inl ⟨h, if_pos h⟩
  · rw [if_neg h]
    cases ok
    · exact .inr (.inr ⟨h, rfl, rfl⟩)
    · exact .inr (.inl ⟨h, rfl, rfl⟩)

/-! ## The functions of 00_scope.md R11, in the library's terms -/

theorem ratFloor_eq (x : Rat) : x.floor = ⌊x⌋ := rfl

theorem ratFloor_toNat_eq (x : Rat) : x.floor.toNat = ⌊x⌋₊ := by
  simp [Nat.floor, FloorSemiring.floor, Int.floor, FloorRing.floor]

theorem absRat_eq (x : Rat) : absRat x = |x| := by
  unfold absRat
  split
  · rw [abs_of_neg ‹_›]
  · rw [abs_of_nonneg (not_lt.1 ‹_›)]

/-! ## The rate table and the conversion -/

/-- What a legal table's entries are: all of 00_scope.md R7 and R8 at once. -/
theorem rateTable_facts (t : RateTable) :
    t.entries.length = 128 ∧ (∀ e ∈ t.entries, 1 ≤ e ∧ e ≤ 65535) ∧ t.entries.head? = some 65535 ∧
      t.entries.getLast? = some 100 ∧ nonIncreasing t.entries = true := by
  have h := t.legal
  simp only [rateTableLegal, Bool.and_eq_true, decide_eq_true_eq, List.all_eq_true] at h
  exact ⟨h.1.1.1.1, h.1.1.1.2, h.1.1.2, h.1.2, h.2⟩

/-- Every entry is a legal divisor (20_memory.md R60, 00_scope.md R8). -/
theorem rateROM_range (t : RateTable) (i : Fin 128) : 1 ≤ rateROM t i ∧ rateROM t i ≤ 65535 :=
  (rateTable_facts t).2.1 _ (List.getElem_mem _)

/-- The sample `CONVERT` gives, as a number: the clamp of the rounded raw value. -/
theorem convert_toNat (p : Params) (x off : Rat) :
    ((convert p x off).toNat : Int) = clampInt 0 4095 (roundHalfAway (rawOutput p x off)) := by
  have h : 0 ≤ clampInt 0 4095 (roundHalfAway (rawOutput p x off)) ∧
      clampInt 0 4095 (roundHalfAway (rawOutput p x off)) ≤ 4095 := by simp only [clampInt]; omega
  have h' : (convert p x off).toNat = (clampInt 0 4095 (roundHalfAway (rawOutput p x off))).toNat := by
    simp only [convert, Config.dacMax, BitVec.toNat_ofNat]
    exact Nat.mod_eq_of_lt (by omega)
  omega

/-! ## The configuration port -/

/-- All that a configuration write can do. -/
theorem State.cfgWriteOp_cases (s : State) (a : CfgAddr) (w : CfgWord) :
    (∃ r, cfgWritten s.cfg a w = some r ∧ s.cfgWriteOp a w = (s.setCfg r).setAccepted true) ∨
    (cfgWritten s.cfg a w = none ∧ s.cfgWriteOp a w = s.setAccepted false) := by
  unfold State.cfgWriteOp
  cases h : cfgWritten s.cfg a w with
  | none => exact .inr ⟨rfl, rfl⟩
  | some r => exact .inl ⟨r, rfl, rfl⟩

/-! ## Taking an event -/

theorem State.takeEvent_nil (s : State) (h : s.input = []) : s.takeEvent = none := by simp [State.takeEvent, h]

theorem State.takeEvent_cons (s : State) (e : RawEvent) (rest : List RawEvent) (h : s.input = e :: rest) :
    s.takeEvent = some (e, { s with input := rest }) := by simp [State.takeEvent, h]

/-- A raw event presented first is the one the next step takes, and taking it gives the state back. -/
theorem State.takeEvent_present (s : State) (e : RawEvent) : (s.present e).takeEvent = some (e, s) := rfl

/-- All that a step can do. -/
theorem step_cases (s : State) :
    (s.input = [] ∧ step s = .next s) ∨
    (∃ e rest i, s.input = e :: rest ∧ decodeEvent e = .ok i ∧ step s = exec i { s with input := rest }) ∨
    (∃ e rest why, s.input = e :: rest ∧ decodeEvent e = .error why ∧ step s = .refused (.notAnEvent why)) := by
  unfold step
  cases h : s.input with
  | nil => exact .inl ⟨rfl, by rw [s.takeEvent_nil h]⟩
  | cons e rest =>
    rw [s.takeEvent_cons e rest h]
    cases hd : decodeEvent e with
    | ok i => exact .inr (.inl ⟨e, rest, i, rfl, hd, by simp only [hd]⟩)
    | error why => exact .inr (.inr ⟨e, rest, why, rfl, hd, by simp only [hd]⟩)

end Sys2Proof.Machine
end

