-- ==== Sys2Proof/Laws/Exec.lean ====
section
/-! SUPPORT. What `exec` answers for each instruction, one equation per constructor, so that no proof unfolds `exec`. -/

namespace Sys2Proof.Machine

@[simp] theorem exec_data (c : Chan) (d : Data7) (s : State) :
    exec (.data c d) s = .next (dataEvent c d s) := rfl
@[simp] theorem exec_noteOff (c : Chan) (n : Nibble) (s : State) :
    exec (.noteOff c n) s = .next (openEvent c .noteOff (statusByte 0x8#4 n) s) := rfl
@[simp] theorem exec_noteOn (c : Chan) (n : Nibble) (s : State) :
    exec (.noteOn c n) s = .next (openEvent c .noteOn (statusByte 0x9#4 n) s) := rfl
@[simp] theorem exec_polyAt (c : Chan) (n : Nibble) (s : State) :
    exec (.polyAt c n) s = .next (openEvent c .polyAt (statusByte 0xA#4 n) s) := rfl
@[simp] theorem exec_cc (c : Chan) (n : Nibble) (s : State) :
    exec (.cc c n) s = .next (openEvent c .cc (statusByte 0xB#4 n) s) := rfl
@[simp] theorem exec_pc (c : Chan) (n : Nibble) (s : State) :
    exec (.pc c n) s = .next (openEvent c .pc (statusByte 0xC#4 n) s) := rfl
@[simp] theorem exec_chanAt (c : Chan) (n : Nibble) (s : State) :
    exec (.chanAt c n) s = .next (openEvent c .chanAt (statusByte 0xD#4 n) s) := rfl
@[simp] theorem exec_pitchWheel (c : Chan) (n : Nibble) (s : State) :
    exec (.pitchWheel c n) s = .next (openEvent c .pitchWheel (statusByte 0xE#4 n) s) := rfl
@[simp] theorem exec_sysexStart (c : Chan) (s : State) :
    exec (.sysexStart c) s = .next (openEvent c .sysexStart 0xF0#8 s) := rfl
@[simp] theorem exec_quarterFrame (c : Chan) (s : State) :
    exec (.quarterFrame c) s = .next (openEvent c .quarterFrame 0xF1#8 s) := rfl
@[simp] theorem exec_songPos (c : Chan) (s : State) :
    exec (.songPos c) s = .next (openEvent c .songPos 0xF2#8 s) := rfl
@[simp] theorem exec_songSel (c : Chan) (s : State) :
    exec (.songSel c) s = .next (openEvent c .songSel 0xF3#8 s) := rfl
@[simp] theorem exec_measureEnd (c : Chan) (s : State) :
    exec (.measureEnd c) s = .next (openEvent c .measureEnd 0xF9#8 s) := rfl
@[simp] theorem exec_undefF4 (c : Chan) (s : State) :
    exec (.undefF4 c) s = .next (ignoredEvent s) := rfl
@[simp] theorem exec_undefF5 (c : Chan) (s : State) :
    exec (.undefF5 c) s = .next (ignoredEvent s) := rfl
@[simp] theorem exec_rtF6 (c : Chan) (s : State) :
    exec (.rtF6 c) s = .next (realTimeEvent c 0xF6#8 s) := rfl
@[simp] theorem exec_rtF7 (c : Chan) (s : State) :
    exec (.rtF7 c) s = .next (realTimeEvent c 0xF7#8 s) := rfl
@[simp] theorem exec_timingClock (c : Chan) (s : State) :
    exec (.timingClock c) s = .next (realTimeEvent c 0xF8#8 s) := rfl
@[simp] theorem exec_start (c : Chan) (s : State) :
    exec (.start c) s = .next (realTimeEvent c 0xFA#8 s) := rfl
@[simp] theorem exec_rtFB (c : Chan) (s : State) :
    exec (.rtFB c) s = .next (realTimeEvent c 0xFB#8 s) := rfl
@[simp] theorem exec_rtFC (c : Chan) (s : State) :
    exec (.rtFC c) s = .next (realTimeEvent c 0xFC#8 s) := rfl
@[simp] theorem exec_rtFD (c : Chan) (s : State) :
    exec (.rtFD c) s = .next (realTimeEvent c 0xFD#8 s) := rfl
@[simp] theorem exec_rtFE (c : Chan) (s : State) :
    exec (.rtFE c) s = .next (realTimeEvent c 0xFE#8 s) := rfl
@[simp] theorem exec_rtFF (c : Chan) (s : State) :
    exec (.rtFF c) s = .next (realTimeEvent c 0xFF#8 s) := rfl
@[simp] theorem exec_reinit (c : Chan) (s : State) :
    exec (.reinit c) s = .next (s.beginEvent.setDec c Decoder.reset) := rfl
@[simp] theorem exec_glideTick (s : State) : exec .glideTick s = .next (s.beginEvent.tick) := rfl
@[simp] theorem exec_flushTick (ok : Bool) (s : State) :
    exec (.flushTick ok) s = .next (s.beginEvent.flush ok) := rfl
@[simp] theorem exec_cfgWrite (a : CfgAddr) (w : CfgWord) (s : State) :
    exec (.cfgWrite a w) s = .next (s.beginEvent.cfgWriteOp a w) := rfl
@[simp] theorem exec_cfgRead (a : CfgAddr) (s : State) :
    exec (.cfgRead a) s = .next (s.beginEvent.setRdata (cfgReadWord s.cfg a)) := rfl
@[simp] theorem exec_reset (s : State) : exec .reset s = .next (s.resetAll) := rfl
@[simp] theorem exec_time_zero (s : State) : exec (.time 0) s = .refused .timeDeltaZero := rfl
@[simp] theorem exec_time (d : Nat) (h : d ≠ 0) (s : State) : exec (.time d) s = .next (s.beginEvent.advance d) := if_neg h

end Sys2Proof.Machine
end

