-- ==== Sys2Proof/Laws/PerInstr.lean ====
section
/-! SUPPORT. Statements about every instruction, one lemma per constructor. Family `MatchesTableRow`: the code word of an
instruction (its byte, or its event code) agrees with its row of spec/opcode_table.json. -/

namespace Sys2Proof.Laws.MatchesTableRow

/-- A row's `match` and `mask` columns, and whether it is a byte class or a port event. -/
structure Row where
  isByte : Bool
  value : Nat
  mask : Nat
  deriving DecidableEq, Repr

/-- The row of spec/opcode_table.json of each instruction. -/
def row : Instr → Row
  | .data _ _ => ⟨true, 0x00, 0x80⟩
  | .noteOff _ _ => ⟨true, 0x80, 0xF0⟩
  | .noteOn _ _ => ⟨true, 0x90, 0xF0⟩
  | .polyAt _ _ => ⟨true, 0xA0, 0xF0⟩
  | .cc _ _ => ⟨true, 0xB0, 0xF0⟩
  | .pc _ _ => ⟨true, 0xC0, 0xF0⟩
  | .chanAt _ _ => ⟨true, 0xD0, 0xF0⟩
  | .pitchWheel _ _ => ⟨true, 0xE0, 0xF0⟩
  | .sysexStart _ => ⟨true, 0xF0, 0xFF⟩
  | .quarterFrame _ => ⟨true, 0xF1, 0xFF⟩
  | .songPos _ => ⟨true, 0xF2, 0xFF⟩
  | .songSel _ => ⟨true, 0xF3, 0xFF⟩
  | .measureEnd _ => ⟨true, 0xF9, 0xFF⟩
  | .undefF4 _ => ⟨true, 0xF4, 0xFF⟩
  | .undefF5 _ => ⟨true, 0xF5, 0xFF⟩
  | .rtF6 _ => ⟨true, 0xF6, 0xFF⟩
  | .rtF7 _ => ⟨true, 0xF7, 0xFF⟩
  | .timingClock _ => ⟨true, 0xF8, 0xFF⟩
  | .start _ => ⟨true, 0xFA, 0xFF⟩
  | .rtFB _ => ⟨true, 0xFB, 0xFF⟩
  | .rtFC _ => ⟨true, 0xFC, 0xFF⟩
  | .rtFD _ => ⟨true, 0xFD, 0xFF⟩
  | .rtFE _ => ⟨true, 0xFE, 0xFF⟩
  | .rtFF _ => ⟨true, 0xFF, 0xFF⟩
  | .reinit _ => ⟨false, 1, 0x7⟩
  | .glideTick => ⟨false, 2, 0x7⟩
  | .flushTick _ => ⟨false, 3, 0x7⟩
  | .cfgWrite _ _ => ⟨false, 4, 0x7⟩
  | .cfgRead _ => ⟨false, 5, 0x7⟩
  | .time _ => ⟨false, 6, 0x7⟩
  | .reset => ⟨false, 7, 0x7⟩

/-- The number the table's mask applies to: the byte of a byte event (event code 0), the event code of any other. -/
def codeWord : RawEvent → Bool × Nat
  | [0, _, b] => (true, b)
  | code :: _ => (false, code)
  | [] => (false, 0)

/-- The encoding of `i` has the kind and the fixed bits of its row. -/
def Statement (i : Instr) : Prop :=
  (codeWord (encode i)).1 = (row i).isByte ∧ (codeWord (encode i)).2 &&& (row i).mask = (row i).value

theorem data (c : Chan) (d : Data7) : Statement (.data c d) := by unfold Statement; revert d; cases c <;> decide
theorem noteOff (c : Chan) (n : Nibble) : Statement (.noteOff c n) := by unfold Statement; revert n; cases c <;> decide
theorem noteOn (c : Chan) (n : Nibble) : Statement (.noteOn c n) := by unfold Statement; revert n; cases c <;> decide
theorem polyAt (c : Chan) (n : Nibble) : Statement (.polyAt c n) := by unfold Statement; revert n; cases c <;> decide
theorem cc (c : Chan) (n : Nibble) : Statement (.cc c n) := by unfold Statement; revert n; cases c <;> decide
theorem pc (c : Chan) (n : Nibble) : Statement (.pc c n) := by unfold Statement; revert n; cases c <;> decide
theorem chanAt (c : Chan) (n : Nibble) : Statement (.chanAt c n) := by unfold Statement; revert n; cases c <;> decide
theorem pitchWheel (c : Chan) (n : Nibble) : Statement (.pitchWheel c n) := by unfold Statement; revert n; cases c <;> decide
theorem sysexStart (c : Chan) : Statement (.sysexStart c) := by unfold Statement; cases c <;> decide
theorem quarterFrame (c : Chan) : Statement (.quarterFrame c) := by unfold Statement; cases c <;> decide
theorem songPos (c : Chan) : Statement (.songPos c) := by unfold Statement; cases c <;> decide
theorem songSel (c : Chan) : Statement (.songSel c) := by unfold Statement; cases c <;> decide
theorem measureEnd (c : Chan) : Statement (.measureEnd c) := by unfold Statement; cases c <;> decide
theorem undefF4 (c : Chan) : Statement (.undefF4 c) := by unfold Statement; cases c <;> decide
theorem undefF5 (c : Chan) : Statement (.undefF5 c) := by unfold Statement; cases c <;> decide
theorem rtF6 (c : Chan) : Statement (.rtF6 c) := by unfold Statement; cases c <;> decide
theorem rtF7 (c : Chan) : Statement (.rtF7 c) := by unfold Statement; cases c <;> decide
theorem timingClock (c : Chan) : Statement (.timingClock c) := by unfold Statement; cases c <;> decide
theorem start (c : Chan) : Statement (.start c) := by unfold Statement; cases c <;> decide
theorem rtFB (c : Chan) : Statement (.rtFB c) := by unfold Statement; cases c <;> decide
theorem rtFC (c : Chan) : Statement (.rtFC c) := by unfold Statement; cases c <;> decide
theorem rtFD (c : Chan) : Statement (.rtFD c) := by unfold Statement; cases c <;> decide
theorem rtFE (c : Chan) : Statement (.rtFE c) := by unfold Statement; cases c <;> decide
theorem rtFF (c : Chan) : Statement (.rtFF c) := by unfold Statement; cases c <;> decide
theorem reinit (c : Chan) : Statement (.reinit c) := by unfold Statement; cases c <;> decide
theorem glideTick : Statement .glideTick := by unfold Statement; decide
theorem flushTick (ok : Bool) : Statement (.flushTick ok) := by unfold Statement; cases ok <;> decide
theorem cfgWrite (a : CfgAddr) (w : CfgWord) : Statement (.cfgWrite a w) := ⟨rfl, by simp [codeWord, encode, row]⟩
theorem cfgRead (a : CfgAddr) : Statement (.cfgRead a) := ⟨rfl, by simp [codeWord, encode, row]⟩
theorem time (d : Nat) : Statement (.time d) := ⟨rfl, by simp [codeWord, encode, row]⟩
theorem reset : Statement .reset := by unfold Statement; decide

end Sys2Proof.Laws.MatchesTableRow
end

