-- ==== Sys2Proof/Safety.lean ====
section
/-! DEFINITION. What counts as a good state and a good run, in the terms the statements use: the spec's own invariants
(10_state.md R30, R50 and the legal values of R40..R48), feeding a channel a sequence of bytes, and the decoder's contract
`FEED` of 40_decoder.md R110 as the spec writes it, one case per byte class. -/

namespace Sys2Proof.Machine

/-! ## Invariants -/

/-- The decoder invariants, items 1 to 5 of 10_state.md R30, in their order. -/
abbrev DecoderInv (r : Decoder) : Prop :=
  (r.bytesExpected = 0#2 ↔ r.messageKind = .idle) ∧
  (r.bytesExpected = 0#2 → r.bytesReceived = 0#2 ∧ r.runningStatus = 0#8) ∧
  (r.bytesExpected ≠ 0#2 → 1 ≤ r.bytesReceived.toNat ∧ r.bytesReceived.toNat < r.bytesExpected.toNat) ∧
  ((r.runningStatus ≠ 0#8 ↔ r.messageKind.isChannelVoice = true) ∧
    (r.runningStatus ≠ 0#8 → r.messageKind.code = typeNibble r.runningStatus - 7#4)) ∧
  (r.messageKind ≠ .idle → r.bytesExpected = r.messageKind.len)

/-- `x` lies between `a` and `b`, in either order. -/
abbrev Between (a b x : Rat) : Prop := min a b ≤ x ∧ x ≤ max a b

/-- `x` lies in `[min(INIT_NOTE, 0), max(INIT_NOTE, 127)]` (10_state.md R50 item 6). -/
abbrev NoteInRange (p : Params) (x : Rat) : Prop := min p.initNote 0 ≤ x ∧ x ≤ max p.initNote 127

/-- The engine invariants, items 1, 2, 4, 5 and 6 of 10_state.md R50 (item 3 is the width of `outputValue`). Item 5 speaks of a tick
since the last `SET_TARGET`, which no register records: it is stated for every state but those of a zero-duration glide, where
the jump waits for its tick (assumption 14). -/
abbrev EngineInv (s : State) : Prop :=
  s.eng.beginTick ≤ s.eng.endTick ∧
  (s.eng.beginTick < s.eng.endTick →
    s.eng.rateFactor = (s.eng.endNote - s.eng.beginNote) / ((s.eng.endTick : Rat) - (s.eng.beginTick : Rat))) ∧
  (s.eng.endTick = s.eng.beginTick → s.eng.rateFactor = 0 ∧ s.eng.beginNote = s.eng.endNote) ∧
  s.eng.beginTick ≤ s.now ∧
  (s.eng.endTick = s.eng.beginTick ∨ Between s.eng.beginNote s.eng.endNote s.eng.currentNote) ∧
  NoteInRange s.params s.eng.currentNote ∧ NoteInRange s.params s.eng.beginNote ∧ NoteInRange s.params s.eng.endNote

/-- Every invariant of the block: both decoders', the engine's, `beat_count` in 0..23 (R41), and legal values in the
configuration registers and in `CFG_RESET` (R42). -/
abbrev Inv (s : State) : Prop :=
  DecoderInv s.dec0 ∧ DecoderInv s.dec1 ∧ EngineInv s ∧ s.beatCount.toNat < 24 ∧ s.cfg.legal = true ∧
    s.params.cfgReset.legal = true

/-! ## Feeding bytes -/

/-- The bytes `bs`, one `BYTE(c, b)` event each, from `s`: the state after them and the messages emitted, in order. -/
def feedBytes (c : Chan) : List Byte → State → Option (State × List Msg)
  | [], s => some (s, [])
  | b :: bs, s =>
    match exec (decodeByte c b) s with
    | .next t => (feedBytes c bs t).map fun r => (r.1, t.out.msg.toList ++ r.2)
    | .fault _ => none
    | .refused _ => none

/-- `FEED(c, b)` as 40_decoder.md R110 writes it: one procedure per class of the byte, then the router on the message. -/
def feedByClass (c : Chan) (b : Byte) (s : State) : State :=
  match classOf b with
  | .data => dataEvent c (b.extractLsb' 0 7) s
  | .channelVoice => openEvent c (kindOf b) b s
  | .systemCommon => openEvent c (kindOf b) b s
  | .realTime => realTimeEvent c b s
  | .undefined => ignoredEvent s

end Sys2Proof.Machine
end

