-- ==== Sys2Proof/Certificates/Slice0/Obligations.lean ====
section
/-! DEFINITION. The statements for the provers, from the spec's numbered rules. An equation `exec i s = .next t` with `t` written as
an update of `s` is at once the instruction's result, its frame (every register the update does not name is unchanged, and so
is the block's one memory, the rate table inside `params`) and its completion. -/

open Sys2Proof Sys2Proof.Machine

/-! ## Steps, decoding and encoding -/

/-- A step runs the decoded event: where the first raw event decodes to a legal event, `step` is `exec` of it on the state without
that raw event (30_encoding.md R93, R95). -/
def Obligations.StepRunsDecodedEvent : Prop :=
  ∀ (s : State) (e : RawEvent) (rest : List RawEvent) (i : Instr), s.input = e :: rest → decodeEvent e = .ok i →
    i.WellFormed → step s = exec i { s with input := rest }

/-- The model's choice (assumptions 1, 5 and 7): with no event waiting a step changes nothing, a raw event that decodes to nothing is
refused by the decoder's name for it, and `TIME(0)`, which is no legal event, is refused. -/
def Obligations.StepWithoutEventWaitsOrRefuses : Prop :=
  (∀ s : State, s.input = [] → step s = .next s) ∧
  (∀ (s : State) (e : RawEvent) (rest : List RawEvent) (why : EventError), s.input = e :: rest →
    decodeEvent e = .error why → step s = .refused (.notAnEvent why)) ∧
  (∀ s : State, exec (.time 0) s = .refused .timeDeltaZero)

/-- The model's interface (assumption 6): a word of the opcode table put where the next step takes its event is the event that step
runs. -/
def Obligations.PresentedTableWordRunsNext : Prop :=
  ∀ (s : State) (nbits w : Nat) (i : Instr), decodeTableWord nbits w = some i → step (s.withFetchWord nbits w) = exec i s

/-- Words written out from the byte map and the event codes decode to what they stand for: a data byte (30_encoding.md R80), status
bytes (R83..R86) and port events (R93). The last two clauses are the model's choice, log entry 5: an unknown event code and a
third physical channel are no events of R93, and the decoder refuses each by name. -/
def Obligations.WrittenOutEventsDecode : Prop :=
  decodeEvent [0, 0, 0b00111100] = .ok (.data .ch0 0x3C#7) ∧ decodeEvent [0, 1, 0b10000101] = .ok (.noteOff .ch1 5#4) ∧
  decodeEvent [0, 0, 0b11100000] = .ok (.pitchWheel .ch0 0#4) ∧ decodeEvent [0, 0, 0b11111001] = .ok (.measureEnd .ch0) ∧
  decodeEvent [0, 1, 0b11110100] = .ok (.undefF4 .ch1) ∧ decodeEvent [0, 1, 0b11111010] = .ok (.start .ch1) ∧
  decodeEvent [1, 1] = .ok (.reinit .ch1) ∧ decodeEvent [3, 0] = .ok (.flushTick false) ∧
  decodeEvent [4, 3, 12] = .ok (.cfgWrite 3#3 12#16) ∧ decodeEvent [6, 60000] = .ok (.time 60000) ∧
  decodeEvent [7] = .ok .reset ∧ decodeEvent [8] = .error (.unknownCode 8) ∧ decodeEvent [0, 2, 0] = .error (.channelRange 2)

/-- Decode and encode agree on every legal event, every operand at every value. -/
def Obligations.DecodeEncodeRoundTrip : Prop := ∀ i : Instr, i.WellFormed → decodeEvent (encode i) = .ok i

/-- A raw event has one reading: whatever the decoder reads from it, that event encodes to it. -/
def Obligations.EncodeOfDecodedEvent : Prop := ∀ (e : RawEvent) (i : Instr), decodeEvent e = .ok i → encode i = e

/-- The code word of every event agrees with its row of the opcode table. -/
def Obligations.EveryEventMatchesItsTableRow : Prop := ∀ i : Instr, Sys2Proof.Laws.MatchesTableRow.Statement i

/-- `CLASS`, `KIND` and `LEN` of 30_encoding.md R87, over all 256 bytes. -/
def Obligations.ClassificationOfEveryByte : Prop :=
  (∀ b : Byte,
    (classOf b = .data ↔ b.toNat < 0x80) ∧ (classOf b = .channelVoice ↔ 0x80 ≤ b.toNat ∧ b.toNat ≤ 0xEF) ∧
    (classOf b = .systemCommon ↔ b ∈ [0xF0#8, 0xF1#8, 0xF2#8, 0xF3#8, 0xF9#8]) ∧
    (classOf b = .realTime ↔ b ∈ [0xF6#8, 0xF7#8, 0xF8#8, 0xFA#8, 0xFB#8, 0xFC#8, 0xFD#8, 0xFE#8, 0xFF#8]) ∧
    (classOf b = .undefined ↔ b ∈ [0xF4#8, 0xF5#8]) ∧
    (classOf b = .channelVoice → (kindOf b).code.toNat = b.toNat / 16 - 7)) ∧
  (kindOf 0xF0#8).code = 8#4 ∧ (kindOf 0xF1#8).code = 9#4 ∧ (kindOf 0xF2#8).code = 10#4 ∧ (kindOf 0xF3#8).code = 11#4 ∧
  (kindOf 0xF9#8).code = 12#4 ∧
  (∀ k : Kind, (k.len = 3#2 ↔ k ∈ [.noteOff, .noteOn, .polyAt, .cc, .pitchWheel, .sysexStart, .songPos]) ∧
    (k.len = 2#2 ↔ k ∈ [.pc, .chanAt, .quarterFrame, .songSel, .measureEnd]) ∧ (k.len = 0#2 ↔ k = .idle))

/-- The event of any byte is `FEED(c, b)` as 40_decoder.md R110 writes it: one procedure per class, then the router. -/
def Obligations.EveryByteRunsItsClassProcedure : Prop :=
  ∀ (c : Chan) (b : Byte) (s : State), exec (decodeByte c b) s = .next (feedByClass c b s)

/-! ## Status bytes -/

/-- `OPEN(c, b)`: any channel-voice or system common status byte opens its message, whatever message was in progress; a channel-voice
status is latched as running status and a system common one cancels it; the data slots and all else are unchanged and nothing
is emitted (40_decoder.md R113). -/
def Obligations.StatusByteOpensMessage : Prop :=
  ∀ (c : Chan) (b : Byte) (s : State), classOf b = .channelVoice ∨ classOf b = .systemCommon →
    exec (decodeByte c b) s = .next (({ s with out := Outputs.quiet } : State).setDec c { s.dec c with
      messageKind := kindOf b
      bytesExpected := (kindOf b).len
      bytesReceived := 1#2
      runningStatus := if classOf b = .channelVoice then b else 0#8 })

/-- Each channel-voice status byte opens a message: its kind, its length, one byte received, and the byte latched as running
status; the data slots and all else are unchanged, and no port is driven (40_decoder.md R114..R120). -/
def Obligations.ChannelVoiceStatusOpensMessage : Prop :=
  ∀ (c : Chan) (n : Nibble) (s : State),
    exec (.noteOff c n) s = .next (({ s with out := Outputs.quiet } : State).setDec c
      { s.dec c with messageKind := .noteOff, bytesExpected := 3#2, bytesReceived := 1#2, runningStatus := 0x8#4 ++ n }) ∧
    exec (.noteOn c n) s = .next (({ s with out := Outputs.quiet } : State).setDec c
      { s.dec c with messageKind := .noteOn, bytesExpected := 3#2, bytesReceived := 1#2, runningStatus := 0x9#4 ++ n }) ∧
    exec (.polyAt c n) s = .next (({ s with out := Outputs.quiet } : State).setDec c
      { s.dec c with messageKind := .polyAt, bytesExpected := 3#2, bytesReceived := 1#2, runningStatus := 0xA#4 ++ n }) ∧
    exec (.cc c n) s = .next (({ s with out := Outputs.quiet } : State).setDec c
      { s.dec c with messageKind := .cc, bytesExpected := 3#2, bytesReceived := 1#2, runningStatus := 0xB#4 ++ n }) ∧
    exec (.pc c n) s = .next (({ s with out := Outputs.quiet } : State).setDec c
      { s.dec c with messageKind := .pc, bytesExpected := 2#2, bytesReceived := 1#2, runningStatus := 0xC#4 ++ n }) ∧
    exec (.chanAt c n) s = .next (({ s with out := Outputs.quiet } : State).setDec c
      { s.dec c with messageKind := .chanAt, bytesExpected := 2#2, bytesReceived := 1#2, runningStatus := 0xD#4 ++ n }) ∧
    exec (.pitchWheel c n) s = .next (({ s with out := Outputs.quiet } : State).setDec c
      { s.dec c with messageKind := .pitchWheel, bytesExpected := 3#2, bytesReceived := 1#2, runningStatus := 0xE#4 ++ n })

/-- Each system common status byte opens a message and cancels running status (40_decoder.md R121..R125). -/
def Obligations.SystemCommonStatusOpensMessage : Prop :=
  ∀ (c : Chan) (s : State),
    exec (.sysexStart c) s = .next (({ s with out := Outputs.quiet } : State).setDec c
      { s.dec c with messageKind := .sysexStart, bytesExpected := 3#2, bytesReceived := 1#2, runningStatus := 0#8 }) ∧
    exec (.quarterFrame c) s = .next (({ s with out := Outputs.quiet } : State).setDec c
      { s.dec c with messageKind := .quarterFrame, bytesExpected := 2#2, bytesReceived := 1#2, runningStatus := 0#8 }) ∧
    exec (.songPos c) s = .next (({ s with out := Outputs.quiet } : State).setDec c
      { s.dec c with messageKind := .songPos, bytesExpected := 3#2, bytesReceived := 1#2, runningStatus := 0#8 }) ∧
    exec (.songSel c) s = .next (({ s with out := Outputs.quiet } : State).setDec c
      { s.dec c with messageKind := .songSel, bytesExpected := 2#2, bytesReceived := 1#2, runningStatus := 0#8 }) ∧
    exec (.measureEnd c) s = .next (({ s with out := Outputs.quiet } : State).setDec c
      { s.dec c with messageKind := .measureEnd, bytesExpected := 2#2, bytesReceived := 1#2, runningStatus := 0#8 })

/-- An undefined status byte changes no register, emits nothing and routes nothing; inside a message it disturbs nothing, as in the
rule's example (40_decoder.md R136, R137). -/
def Obligations.UndefinedStatusIgnored : Prop :=
  ∀ (c : Chan) (s : State),
    exec (.undefF4 c) s = .next { s with out := Outputs.quiet } ∧ exec (.undefF5 c) s = .next { s with out := Outputs.quiet } ∧
    ∀ r ∈ [0xF4#8, 0xF5#8], ∃ t : State,
      feedBytes .ch0 [0x90#8, 0x3C#8, r, 0x64#8] s = some (t, [⟨.ch0, 0x90#8, 0x3C#7, 0x64#7, 3#2⟩])

/-! ## Real-time bytes -/

/-- The real-time bytes without a handler emit their one-byte message and change no register (40_decoder.md R127, R128,
R131..R135). -/
def Obligations.HandlerlessRealTimeByteOnlyEmits : Prop :=
  ∀ (c : Chan) (s : State),
    exec (.rtF6 c) s = .next { s with out := { Outputs.quiet with msg := some ⟨c, 0xF6#8, 0#7, 0#7, 1#2⟩ } } ∧
    exec (.rtF7 c) s = .next { s with out := { Outputs.quiet with msg := some ⟨c, 0xF7#8, 0#7, 0#7, 1#2⟩ } } ∧
    exec (.rtFB c) s = .next { s with out := { Outputs.quiet with msg := some ⟨c, 0xFB#8, 0#7, 0#7, 1#2⟩ } } ∧
    exec (.rtFC c) s = .next { s with out := { Outputs.quiet with msg := some ⟨c, 0xFC#8, 0#7, 0#7, 1#2⟩ } } ∧
    exec (.rtFD c) s = .next { s with out := { Outputs.quiet with msg := some ⟨c, 0xFD#8, 0#7, 0#7, 1#2⟩ } } ∧
    exec (.rtFE c) s = .next { s with out := { Outputs.quiet with msg := some ⟨c, 0xFE#8, 0#7, 0#7, 1#2⟩ } } ∧
    exec (.rtFF c) s = .next { s with out := { Outputs.quiet with msg := some ⟨c, 0xFF#8, 0#7, 0#7, 1#2⟩ } }

/-- A timing clock from the selected source counts modulo 24; from another it only emits (40_decoder.md R129, 41_router.md
R160). -/
def Obligations.TimingClockCountsModulo24 : Prop :=
  ∀ (c : Chan) (s : State),
    exec (.timingClock c) s = .next { s with
      out := { Outputs.quiet with msg := some ⟨c, 0xF8#8, 0#7, 0#7, 1#2⟩ }
      beatCount := if s.cfg.clkSrc.toNat = c.index then BitVec.ofNat 5 ((s.beatCount.toNat + 1) % 24) else s.beatCount }

/-- A start byte from the selected source clears the count; from another it only emits (40_decoder.md R130, 41_router.md R161). -/
def Obligations.StartClearsBeatCount : Prop :=
  ∀ (c : Chan) (s : State),
    exec (.start c) s = .next { s with
      out := { Outputs.quiet with msg := some ⟨c, 0xFA#8, 0#7, 0#7, 1#2⟩ }
      beatCount := if s.cfg.clkSrc.toNat = c.index then 0#5 else s.beatCount }

/-! ## Data bytes -/

/-- A data byte while the decoder is idle is discarded: no register changes and nothing is emitted (40_decoder.md R111, R139
item 2). -/
def Obligations.DataByteWhileIdleDiscarded : Prop :=
  ∀ (c : Chan) (d : Data7) (s : State), (s.dec c).bytesExpected = 0#2 →
    exec (.data c d) s = .next { s with out := Outputs.quiet }

/-- A data byte that does not complete the message is stored by position and counted (40_decoder.md R111). -/
def Obligations.DataByteStoredByPosition : Prop :=
  ∀ (c : Chan) (d : Data7) (s : State), (s.dec c).bytesExpected ≠ 0#2 →
    (s.dec c).bytesReceived + 1#2 ≠ (s.dec c).bytesExpected →
    exec (.data c d) s = .next (({ s with out := Outputs.quiet } : State).setDec c { s.dec c with
      data1 := if (s.dec c).bytesReceived = 1#2 then d else (s.dec c).data1
      data2 := if (s.dec c).bytesReceived = 1#2 then (s.dec c).data2 else d
      bytesReceived := (s.dec c).bytesReceived + 1#2 })

/-- The data byte that makes the count reach the expected one completes the message: it is emitted, a channel-voice decoder is
re-armed with its running status, a system common one returns to idle; nothing but the engine and `beat_count` can change
beside it (40_decoder.md R111, R112, 30_encoding.md R88). -/
def Obligations.LastDataByteCompletesMessage : Prop :=
  ∀ (c : Chan) (d : Data7) (s : State), DecoderInv (s.dec c) → (s.dec c).bytesExpected ≠ 0#2 →
    (s.dec c).bytesReceived + 1#2 = (s.dec c).bytesExpected →
    ∃ (t : State) (m : Msg), exec (.data c d) s = .next t ∧ t.out = { Outputs.quiet with msg := some m } ∧ m.chan = c ∧
      ((s.dec c).messageKind.isChannelVoice = true → m.status = (s.dec c).runningStatus) ∧
      ((s.dec c).messageKind = .sysexStart → m.status = 0xF0#8) ∧
      ((s.dec c).messageKind = .quarterFrame → m.status = 0xF1#8) ∧
      ((s.dec c).messageKind = .songPos → m.status = 0xF2#8) ∧
      ((s.dec c).messageKind = .songSel → m.status = 0xF3#8) ∧
      ((s.dec c).messageKind = .measureEnd → m.status = 0xF9#8) ∧
      m.len = (s.dec c).bytesExpected ∧
      ((s.dec c).bytesExpected = 3#2 → m.data1 = (s.dec c).data1 ∧ m.data2 = d ∧
        (t.dec c).data1 = (s.dec c).data1 ∧ (t.dec c).data2 = d) ∧
      ((s.dec c).bytesExpected = 2#2 → m.data1 = d ∧ m.data2 = 0#7 ∧
        (t.dec c).data1 = d ∧ (t.dec c).data2 = (s.dec c).data2) ∧
      ((s.dec c).messageKind.isChannelVoice = true → (t.dec c).messageKind = (s.dec c).messageKind ∧
        (t.dec c).bytesReceived = 1#2 ∧ (t.dec c).bytesExpected = (s.dec c).bytesExpected ∧
        (t.dec c).runningStatus = (s.dec c).runningStatus) ∧
      ((s.dec c).messageKind.isChannelVoice = false → (t.dec c).messageKind = .idle ∧ (t.dec c).bytesReceived = 0#2 ∧
        (t.dec c).bytesExpected = 0#2 ∧ (t.dec c).runningStatus = 0#8) ∧
      t.dec c.other = s.dec c.other ∧ t.now = s.now ∧ t.cfg = s.cfg ∧ t.params = s.params ∧ t.input = s.input

/-- A Note-On that passes the filter runs `SET_TARGET`: the glide starts at the last tick's `current_note`, its duration is rounded
down to whole microseconds at the table's rate, and a zero duration jumps (41_router.md R151, 42_engine.md R181, R182,
R184). -/
def Obligations.NoteOnSetsTarget : Prop :=
  ∀ (c : Chan) (n : Nibble) (k x v : Data7) (s : State) (dur : Nat),
    s.dec c = ⟨0x9#4 ++ n, .noteOn, k, x, 2#2, 3#2⟩ →
    (channelFilter s.cfg c = 0#5 ∨ (channelFilter s.cfg c).toNat = n.toNat + 1) →
    ¬(s.params.vel0IsNoteOff = true ∧ v = 0#7) →
    dur = ⌊|(k.toNat : Rat) - s.eng.currentNote| * 100 * 1000000 /
      (rateROM s.params.rateTable (glideIndex s.cfg.glideAmt) : Rat)⌋₊ →
    exec (.data c v) s = .next { s.setDec c ⟨0x9#4 ++ n, .noteOn, k, v, 1#2, 3#2⟩ with
      out := { Outputs.quiet with msg := some ⟨c, 0x9#4 ++ n, k, v, 3#2⟩ }
      eng := { s.eng with
        beginNote := if dur = 0 then (k.toNat : Rat) else s.eng.currentNote
        endNote := (k.toNat : Rat)
        beginTick := s.now
        endTick := s.now + dur
        rateFactor := if dur = 0 then 0 else ((k.toNat : Rat) - s.eng.currentNote) / (dur : Rat) } }

/-- With `VEL0_IS_NOTE_OFF` set, a Note-On of velocity 0 changes no engine register (41_router.md R151, R152). -/
def Obligations.ZeroVelocityNoteOnAsNoteOff : Prop :=
  ∀ (c : Chan) (n : Nibble) (k x : Data7) (s : State),
    s.dec c = ⟨0x9#4 ++ n, .noteOn, k, x, 2#2, 3#2⟩ → s.params.vel0IsNoteOff = true →
    exec (.data c 0#7) s = .next { s.setDec c ⟨0x9#4 ++ n, .noteOn, k, 0#7, 1#2, 3#2⟩ with
      out := { Outputs.quiet with msg := some ⟨c, 0x9#4 ++ n, k, 0#7, 3#2⟩ } }

/-- A pitch-wheel message that passes the filter sets the offset from its 14-bit value and recomputes the output at once
(41_router.md R156, 42_engine.md R196). -/
def Obligations.PitchWheelUpdatesOffsetAndOutput : Prop :=
  ∀ (c : Chan) (n : Nibble) (lsb x msb : Data7) (s : State) (off : Rat),
    s.dec c = ⟨0xE#4 ++ n, .pitchWheel, lsb, x, 2#2, 3#2⟩ →
    (channelFilter s.cfg c = 0#5 ∨ (channelFilter s.cfg c).toNat = n.toNat + 1) →
    off = (((msb.toNat * 128 + lsb.toNat : Nat) : Rat) - 8192) * (s.cfg.pwRange.toNat : Rat) * s.params.vphn / 8192 →
    exec (.data c msb) s = .next { s.setDec c ⟨0xE#4 ++ n, .pitchWheel, lsb, msb, 1#2, 3#2⟩ with
      out := { Outputs.quiet with msg := some ⟨c, 0xE#4 ++ n, lsb, msb, 3#2⟩ }
      eng := { s.eng with
        pitchWheelOffset := off
        outputValue := convert s.params (outNote s.cfg.glideMode s.eng.currentNote) off } }

/-- Note-Off, polyphonic aftertouch, Control-Change, Program-Change and channel aftertouch have no effect beyond their decoder,
whatever the filter says (41_router.md R152..R155). -/
def Obligations.HandlerlessVoiceMessageOnlyEmits : Prop :=
  ∀ (c : Chan) (n : Nibble) (d1 d2 v : Data7) (s : State),
    (∀ p ∈ [(Kind.noteOff, 0x8#4), (Kind.polyAt, 0xA#4), (Kind.cc, 0xB#4)],
      s.dec c = ⟨p.2 ++ n, p.1, d1, d2, 2#2, 3#2⟩ →
      exec (.data c v) s = .next { s.setDec c ⟨p.2 ++ n, p.1, d1, v, 1#2, 3#2⟩ with
        out := { Outputs.quiet with msg := some ⟨c, p.2 ++ n, d1, v, 3#2⟩ } }) ∧
    (∀ p ∈ [(Kind.pc, 0xC#4), (Kind.chanAt, 0xD#4)],
      s.dec c = ⟨p.2 ++ n, p.1, d1, d2, 1#2, 2#2⟩ →
      exec (.data c v) s = .next { s.setDec c ⟨p.2 ++ n, p.1, v, d2, 1#2, 2#2⟩ with
        out := { Outputs.quiet with msg := some ⟨c, p.2 ++ n, v, 0#7, 2#2⟩ } })

/-- The channel filter: filter 0 passes all, filter `f` passes MIDI channel `f`, and each physical channel has its own filter, read when
the message completes. A channel-voice message that does not pass is dropped: it is emitted, and no register outside its
decoder changes (41_router.md R158). -/
def Obligations.FilteredMessageDropped : Prop :=
  (∀ (r : CfgRegs) (n t : Nibble),
    (pass r .ch0 (t ++ n) = true ↔ r.filter0.toNat = 0 ∨ r.filter0.toNat = n.toNat + 1) ∧
    (pass r .ch1 (t ++ n) = true ↔ r.filter1.toNat = 0 ∨ r.filter1.toNat = n.toNat + 1)) ∧
  ∀ (c : Chan) (n : Nibble) (d1 d2 v : Data7) (s : State),
    (channelFilter s.cfg c).toNat ≠ 0 → (channelFilter s.cfg c).toNat ≠ n.toNat + 1 →
    (∀ p ∈ [(Kind.noteOff, 0x8#4), (Kind.noteOn, 0x9#4), (Kind.polyAt, 0xA#4), (Kind.cc, 0xB#4), (Kind.pitchWheel, 0xE#4)],
      s.dec c = ⟨p.2 ++ n, p.1, d1, d2, 2#2, 3#2⟩ →
      exec (.data c v) s = .next { s.setDec c ⟨p.2 ++ n, p.1, d1, v, 1#2, 3#2⟩ with
        out := { Outputs.quiet with msg := some ⟨c, p.2 ++ n, d1, v, 3#2⟩ } }) ∧
    (∀ p ∈ [(Kind.pc, 0xC#4), (Kind.chanAt, 0xD#4)],
      s.dec c = ⟨p.2 ++ n, p.1, d1, d2, 1#2, 2#2⟩ →
      exec (.data c v) s = .next { s.setDec c ⟨p.2 ++ n, p.1, v, d2, 1#2, 2#2⟩ with
        out := { Outputs.quiet with msg := some ⟨c, p.2 ++ n, v, 0#7, 2#2⟩ } })

/-- A completed system common message is emitted, returns its decoder to idle and has no other effect (40_decoder.md R112,
41_router.md R157). -/
def Obligations.SystemCommonMessageReturnsToIdle : Prop :=
  ∀ (c : Chan) (d1 d2 v : Data7) (s : State),
    (∀ p ∈ [(Kind.sysexStart, 0xF0#8), (Kind.songPos, 0xF2#8)],
      s.dec c = ⟨0#8, p.1, d1, d2, 2#2, 3#2⟩ →
      exec (.data c v) s = .next { s.setDec c ⟨0#8, .idle, d1, v, 0#2, 0#2⟩ with
        out := { Outputs.quiet with msg := some ⟨c, p.2, d1, v, 3#2⟩ } }) ∧
    (∀ p ∈ [(Kind.quarterFrame, 0xF1#8), (Kind.songSel, 0xF3#8), (Kind.measureEnd, 0xF9#8)],
      s.dec c = ⟨0#8, p.1, d1, d2, 1#2, 2#2⟩ →
      exec (.data c v) s = .next { s.setDec c ⟨0#8, .idle, v, d2, 0#2, 0#2⟩ with
        out := { Outputs.quiet with msg := some ⟨c, p.2, v, 0#7, 2#2⟩ } })

/-! ## Port events -/

/-- `REINIT(c)` puts `dec[c]` at its reset values and changes nothing else; a data byte after it is discarded (43_config_time.md
R225). -/
def Obligations.ReinitResetsOneDecoder : Prop :=
  ∀ (c : Chan) (d : Data7) (s t : State),
    t = ({ s with out := Outputs.quiet } : State).setDec c ⟨0#8, .idle, 0#7, 0#7, 0#2, 0#2⟩ →
    exec (.reinit c) s = .next t ∧ t.dec c.other = s.dec c.other ∧ exec (.data c d) t = .next t

/-- `GLIDE_TICK` runs `TICK` at the event's `now`: the note is interpolated, or ends at `end_note`, and the output is recomputed in
any case. Where the engine's invariants hold, a tick at `now = end_tick` gives exactly `end_note` and one at `now = begin_tick`
gives `begin_note` (42_engine.md R190). -/
def Obligations.GlideTickInterpolatesAndRecomputes : Prop :=
  ∀ (s : State) (x : Rat),
    x = (if s.now > s.eng.endTick then s.eng.endNote
      else s.eng.beginNote + ((s.now : Rat) - (s.eng.beginTick : Rat)) * s.eng.rateFactor) →
    exec .glideTick s = .next { s with
      out := Outputs.quiet
      eng := { s.eng with
        currentNote := x
        outputValue := convert s.params (outNote s.cfg.glideMode x) s.eng.pitchWheelOffset } } ∧
    (EngineInv s → s.now = s.eng.endTick → x = s.eng.endNote) ∧
    (EngineInv s → s.now = s.eng.beginTick → x = s.eng.beginNote)

/-- `FLUSH(ok)` writes the DAC exactly when the output differs from the last value written with success, and records the write only
on success (42_engine.md R200). -/
def Obligations.FlushWritesOnChange : Prop :=
  ∀ (s : State) (ok : Bool),
    (s.eng.lastWritten = some s.eng.outputValue → exec (.flushTick ok) s = .next { s with out := Outputs.quiet }) ∧
    (s.eng.lastWritten ≠ some s.eng.outputValue →
      exec (.flushTick ok) s = .next { s with
        out := { Outputs.quiet with dac := some s.eng.outputValue }
        eng := { s.eng with lastWritten := if ok then some s.eng.outputValue else s.eng.lastWritten } })

/-- `CFG_WRITE(a, w)`: a legal value is stored in the addressed register alone and accepted; any other value, and addresses 6 and 7,
are rejected with no register changed (43_config_time.md R220). -/
def Obligations.CfgWriteAppliedWholeOrNotAtAll : Prop :=
  ∀ (s : State) (w : CfgWord) (yes no : Outputs),
    yes = { Outputs.quiet with cfgAccepted := some true } → no = { Outputs.quiet with cfgAccepted := some false } →
    exec (.cfgWrite 0#3 w) s = .next (if w.toNat ≤ 16 then
      { s with out := yes, cfg := { s.cfg with filter0 := BitVec.ofNat 5 w.toNat } } else { s with out := no }) ∧
    exec (.cfgWrite 1#3 w) s = .next (if w.toNat ≤ 16 then
      { s with out := yes, cfg := { s.cfg with filter1 := BitVec.ofNat 5 w.toNat } } else { s with out := no }) ∧
    exec (.cfgWrite 2#3 w) s = .next (if w.toNat ≤ 2 then
      { s with out := yes, cfg := { s.cfg with clkSrc := BitVec.ofNat 2 w.toNat } } else { s with out := no }) ∧
    exec (.cfgWrite 3#3 w) s = .next (if w.toNat ≤ 24 then
      { s with out := yes, cfg := { s.cfg with pwRange := BitVec.ofNat 5 w.toNat } } else { s with out := no }) ∧
    exec (.cfgWrite 4#3 w) s = .next { s with out := yes, cfg := { s.cfg with glideAmt := w } } ∧
    exec (.cfgWrite 5#3 w) s = .next (if w.toNat ≤ 1 then
      { s with out := yes, cfg := { s.cfg with glideMode := BitVec.ofNat 1 w.toNat } } else { s with out := no }) ∧
    exec (.cfgWrite 6#3 w) s = .next { s with out := no } ∧ exec (.cfgWrite 7#3 w) s = .next { s with out := no }

/-- `CFG_READ(a)` drives the addressed register, zero-extended (`GLIDE_AMT` as its own word, 0 for addresses 6 and 7), and changes no
register (43_config_time.md R221). -/
def Obligations.CfgReadDrivesRegister : Prop :=
  ∀ (s : State) (a : CfgAddr), ∃ v : CfgWord,
    exec (.cfgRead a) s = .next { s with out := { Outputs.quiet with cfgRdata := some v } } ∧
    (a = 0#3 → v.toNat = s.cfg.filter0.toNat) ∧ (a = 1#3 → v.toNat = s.cfg.filter1.toNat) ∧
    (a = 2#3 → v.toNat = s.cfg.clkSrc.toNat) ∧ (a = 3#3 → v.toNat = s.cfg.pwRange.toNat) ∧
    (a = 4#3 → v = s.cfg.glideAmt) ∧ (a = 5#3 → v.toNat = s.cfg.glideMode.toNat) ∧
    (a = 6#3 ∨ a = 7#3 → v = 0#16)

/-- A word whose write is accepted is read back whole from the same address. -/
def Obligations.AcceptedWriteReadsBack : Prop :=
  ∀ (s t : State) (a : CfgAddr) (w : CfgWord), exec (.cfgWrite a w) s = .next t → t.out.cfgAccepted = some true →
    exec (.cfgRead a) t = .next { t with out := { Outputs.quiet with cfgRdata := some w } }

/-- A configuration write keeps every configuration register legal, whatever is written (10_state.md R42, 43_config_time.md
R220). -/
def Obligations.CfgWriteKeepsLegalValues : Prop :=
  ∀ (s t : State) (a : CfgAddr) (w : CfgWord), s.cfg.legal = true → exec (.cfgWrite a w) s = .next t → t.cfg.legal = true

/-- `TIME(d)` advances `now` by `d ≥ 1`, with no bound on `d`, and changes nothing else; `TIME(0)` is no legal event (43_config_time.md
R226). -/
def Obligations.TimeAdvancesNowAlone : Prop :=
  (∀ (s : State) (d : Nat), 1 ≤ d → exec (.time d) s = .next { s with out := Outputs.quiet, now := s.now + d }) ∧
  ¬ (Instr.time 0).WellFormed

/-- `RESET` sets every register to its reset value, with the output computed from them in the reset mode; the parameters and the
events still to come stay (70_reset_and_hazards.md R280, 10_state.md R53). -/
def Obligations.ResetSetsEveryRegister : Prop :=
  ∀ s : State, exec .reset s = .next
    { dec0 := ⟨0#8, .idle, 0#7, 0#7, 0#2, 0#2⟩
      dec1 := ⟨0#8, .idle, 0#7, 0#7, 0#2, 0#2⟩
      eng :=
        { currentNote := s.params.initNote, beginNote := s.params.initNote, endNote := s.params.initNote
          beginTick := 0, endTick := 0, rateFactor := 0, pitchWheelOffset := 0
          outputValue := convert s.params (outNote s.params.cfgReset.glideMode s.params.initNote) 0
          lastWritten := none }
      now := 0
      beatCount := 0#5
      cfg := s.params.cfgReset
      out := ⟨none, none, some false, none⟩
      params := s.params
      input := s.input }

/-- The machine starts in the state a `RESET` leaves, with no event waiting and the defaults of `CFG_RESET` (10_state.md R45, R53;
the chip's parameters are the model's choice: assumptions 2 and 3). -/
def Obligations.ResetStateIsAfterReset : Prop :=
  exec .reset State.reset = .next State.reset ∧ State.reset.input = [] ∧ State.reset.params.initNote = State.reset.params.c0Ref ∧
  State.reset.cfg = ⟨0#5, 0#5, 2#2, 2#5, 0#16, 0#1⟩ ∧ State.reset.params.vel0IsNoteOff = false ∧
  State.reset.params.flushPeriodUs = 250 ∧ State.reset.params.glidePeriodUs = 1000

/-! ## Invariants -/

/-- The reset state of the model meets every invariant. -/
def Obligations.ResetMeetsInvariants : Prop := Inv State.reset

/-- The state after any `RESET` satisfies every invariant: both decoders idle with no running status, the engine `Idle`, the time
markers 0, `rate_factor = 0` with `begin_note = end_note`, the output in range (70_reset_and_hazards.md R281). The legal values of
`CFG_RESET` are a premise: no rule of the engine or the decoder needs them, but `Inv` speaks of the configuration too. -/
def Obligations.ResetEventMeetsInvariants : Prop :=
  ∀ s t : State, s.params.cfgReset.legal = true → exec .reset s = .next t →
    Inv t ∧ (∀ c : Chan, (t.dec c).isIdle = true ∧ (t.dec c).holdsRunningStatus = false) ∧ t.eng.phase = .idle ∧
    t.eng.beginTick = 0 ∧ t.eng.endTick = 0 ∧ t.now = 0 ∧ t.eng.rateFactor = 0 ∧ t.eng.beginNote = t.eng.endNote ∧
    t.eng.outputValue.toNat ≤ 4095

/-- Every step keeps every invariant of 10_state.md R30 and R50, from every state that meets them. -/
def Obligations.StepKeepsInvariants : Prop := ∀ s t : State, Inv s → step s = .next t → Inv t

/-- Every legal event completes, from every state: no event faults, waits or is refused (60_exceptions.md R250, R259;
43_config_time.md R231). -/
def Obligations.EveryLegalEventCompletes : Prop :=
  ∀ (i : Instr) (s : State), i.WellFormed → ∃ t : State, exec i s = .next t

/-! ## The decoder's laws (40_decoder.md R139) -/

/-- Running-status equivalence (R139 item 1, 30_encoding.md R90): with the status byte repeated or omitted, the same two messages are
emitted and the same state is reached. -/
def Obligations.RunningStatusEquivalence : Prop :=
  ∀ (c : Chan) (st : Byte) (ds es : List Data7) (s : State), classOf st = .channelVoice →
    ds.length + 1 = (kindOf st).len.toNat → es.length + 1 = (kindOf st).len.toNat →
    ∃ (t : State) (m1 m2 : Msg),
      feedBytes c (st :: ds.map (0#1 ++ ·) ++ st :: es.map (0#1 ++ ·)) s = some (t, [m1, m2]) ∧
      feedBytes c (st :: ds.map (0#1 ++ ·) ++ es.map (0#1 ++ ·)) s = some (t, [m1, m2]) ∧
      m1.status = st ∧ m2.status = st

/-- A real-time byte inserted anywhere in a byte sequence adds its own one-byte message there and changes no other message and no
register but `beat_count` (R139 item 3; `beat_count` by 41_router.md R160, R161). -/
def Obligations.RealTimeByteInsertedAnywhere : Prop :=
  ∀ (c : Chan) (r : Byte) (bs es : List Byte) (s u t : State) (ms ns : List Msg), classOf r = .realTime →
    feedBytes c bs s = some (u, ms) → feedBytes c es u = some (t, ns) →
    ∃ t' : State, feedBytes c (bs ++ r :: es) s = some (t', ms ++ ⟨c, r, 0#7, 0#7, 1#2⟩ :: ns) ∧
      { t' with beatCount := t.beatCount, out := t.out } = t

/-- An undefined status byte inserted anywhere changes no message and no register (R139 item 4). -/
def Obligations.UndefinedByteInsertedAnywhere : Prop :=
  ∀ (c : Chan) (r : Byte) (bs es : List Byte) (s u t : State) (ms ns : List Msg), classOf r = .undefined →
    feedBytes c bs s = some (u, ms) → feedBytes c es u = some (t, ns) →
    ∃ t' : State, feedBytes c (bs ++ r :: es) s = some (t', ms ++ ns) ∧ { t' with out := t.out } = t

/-- The effect of a byte on `dec[c]`, and the message it emits, depend on `dec[c]` and the byte alone, and the other decoder keeps its
registers (R139 item 6, 10_state.md R24). -/
def Obligations.ByteEffectDependsOnItsDecoderOnly : Prop :=
  ∀ (c : Chan) (b : Byte) (s1 s2 t1 t2 : State), s1.dec c = s2.dec c →
    exec (decodeByte c b) s1 = .next t1 → exec (decodeByte c b) s2 = .next t2 →
    t1.dec c = t2.dec c ∧ t1.out = t2.out ∧ t1.dec c.other = s1.dec c.other

/-! ## Which events write which registers -/

/-- `now` is changed only by `TIME`, which never lowers it, and by `RESET` (10_state.md R40). -/
def Obligations.NowMovesOnlyByTimeAndReset : Prop :=
  ∀ (i : Instr) (s t : State), exec i s = .next t →
    (i = .reset ∧ t.now = 0) ∨ (∃ d, i = .time d ∧ 1 ≤ d ∧ t.now = s.now + d) ∨ t.now = s.now

/-- Each engine register is written only by the events its rule names (10_state.md R33..R39), and the parameters, the rate table among
them, by none (R51, 20_memory.md R60). -/
def Obligations.EngineRegistersKeepTheirWriters : Prop :=
  ∀ (i : Instr) (s t : State), exec i s = .next t → i ≠ .reset →
    (i ≠ .glideTick → t.eng.currentNote = s.eng.currentNote) ∧
    ((∀ c d, i ≠ .data c d) → t.eng.beginNote = s.eng.beginNote ∧ t.eng.endNote = s.eng.endNote ∧
      t.eng.beginTick = s.eng.beginTick ∧ t.eng.endTick = s.eng.endTick ∧ t.eng.rateFactor = s.eng.rateFactor ∧
      t.eng.pitchWheelOffset = s.eng.pitchWheelOffset) ∧
    ((∀ c d, i ≠ .data c d) → i ≠ .glideTick → t.eng.outputValue = s.eng.outputValue) ∧
    ((∀ ok, i ≠ .flushTick ok) → t.eng.lastWritten = s.eng.lastWritten) ∧
    t.params = s.params ∧ t.input = s.input

/-- `beat_count`, the configuration and the decoders are written only by the events their rules name (10_state.md R24, R41, R42;
41_router.md R163). -/
def Obligations.OtherRegistersKeepTheirWriters : Prop :=
  ∀ (i : Instr) (s t : State), Inv s → exec i s = .next t → i ≠ .reset →
    ((∀ c, i ≠ .timingClock c) → (∀ c, i ≠ .start c) → t.beatCount = s.beatCount) ∧
    ((∀ a w, i ≠ .cfgWrite a w) → t.cfg = s.cfg) ∧
    (∀ c : Chan, (∀ b, i ≠ decodeByte c b) → i ≠ .reinit c → t.dec c = s.dec c)

/-- The ports of one event are driven only by the events that own them. For `msg_valid` and `dac_req` 10_state.md R20 says so: they are
0 in every event that does not drive them. For `cfg_accepted` and `cfg_rdata` it is the model's choice, log entry 4: R20 gives
them no level outside their own events, and the model calls them not driven there. -/
def Obligations.OutputPortsKeepTheirDrivers : Prop :=
  ∀ (i : Instr) (s t : State), exec i s = .next t →
    ((∀ c b, i ≠ decodeByte c b) → t.out.msg = none) ∧
    ((∀ ok, i ≠ .flushTick ok) → t.out.dac = none) ∧
    ((∀ a w, i ≠ .cfgWrite a w) → i ≠ .reset → t.out.cfgAccepted = none) ∧
    ((∀ a, i ≠ .cfgRead a) → t.out.cfgRdata = none)

/-! ## The engine's laws -/

/-- Once `now > end_tick`, further glide ticks, at that `now` or later, leave `current_note = end_note` and the same output (42_engine.md
R191 item 1). -/
def Obligations.TickIdempotentAfterGlide : Prop :=
  ∀ (s t : State), s.now > s.eng.endTick → exec .glideTick s = .next t →
    t.eng.currentNote = s.eng.endNote ∧ exec .glideTick t = .next t ∧
    ∀ later ≥ s.now, exec .glideTick { t with now := later } = .next { t with now := later }

/-- A tick never passes the target, and as `now` grows the note moves from `begin_note` toward `end_note` (42_engine.md R191 item 2,
10_state.md R50 item 5). -/
def Obligations.TickMovesTowardTargetWithoutPassing : Prop :=
  ∀ (s t t' : State) (later : Nat), EngineInv s → s.now ≤ later → exec .glideTick s = .next t →
    exec .glideTick { s with now := later } = .next t' →
    Between s.eng.beginNote s.eng.endNote t.eng.currentNote ∧ Between t.eng.currentNote s.eng.endNote t'.eng.currentNote

/-- The phase of 10_state.md R49: a tick with `now ≥ end_tick` ends in `Idle`; one strictly inside a glide between two different notes
stays `Gliding` (42_engine.md R202). -/
def Obligations.TickReachesIdlePhase : Prop :=
  ∀ (s t : State), EngineInv s → exec .glideTick s = .next t →
    (s.now ≥ s.eng.endTick → t.eng.phase = .idle) ∧
    (s.now < s.eng.endTick → s.eng.beginNote ≠ s.eng.endNote → t.eng.phase = .gliding)

/-- `round_half_away` gives a nearest integer, and at a tie the one farther from zero (00_scope.md R11). -/
def Obligations.RoundHalfAwayIsNearest : Prop :=
  ∀ x : Rat, |(roundHalfAway x : Rat) - x| ≤ 1 / 2 ∧
    (|(roundHalfAway x : Rat) - x| = 1 / 2 → |x| < |(roundHalfAway x : Rat)|)

/-- `CONVERT` is the clamp to 0..4095 of the rounded raw value (42_engine.md R193). -/
def Obligations.ConvertClampsRoundedRaw : Prop :=
  ∀ (p : Params) (x off : Rat),
    ((convert p x off).toNat : Int) =
      min 4095 (max 0 (roundHalfAway ((x - p.c0Ref) * p.vphn + p.dacC0 + off))) ∧
    (convert p x off).toNat ≤ 4095

/-- With `VPHN > 0` the sample is non-decreasing in the note and in the offset (42_engine.md R195 item 4). -/
def Obligations.ConvertMonotone : Prop :=
  ∀ (p : Params) (x y a b : Rat), 0 < p.vphn → x ≤ y → a ≤ b → (convert p x a).toNat ≤ (convert p y b).toNat

/-- In Glissando the output follows the integer part of the note alone, and the two modes agree on whole notes (42_engine.md R192, R195
items 2 and 3). -/
def Obligations.GlissandoFollowsIntegerPart : Prop :=
  (∀ (p : Params) (x y off : Rat), 0 ≤ x → 0 ≤ y → ⌊x⌋ = ⌊y⌋ →
    convert p (outNote 1#1 x) off = convert p (outNote 1#1 y) off) ∧
  (∀ (p : Params) (n : Int) (off : Rat), convert p (outNote 1#1 (n : Rat)) off = convert p (outNote 0#1 (n : Rat)) off) ∧
  (∀ x : Rat, outNote 0#1 x = x) ∧
  (∀ x : Rat, ∃ n : Int, outNote 1#1 x = (n : Rat) ∧ |(n : Rat)| ≤ |x| ∧ |x| < |(n : Rat)| + 1 ∧ 0 ≤ (n : Rat) * x)

/-- The pitch-wheel offset is 0 at the centre and for range 0, `-PW_RANGE` half-notes at the bottom, and `8191/8192` of `+PW_RANGE` at the
top (42_engine.md R196). -/
def Obligations.PitchOffsetScale : Prop :=
  ∀ (p : Params) (range : BitVec 5) (v : Nat),
    pitchOffset p range 8192 = 0 ∧ pitchOffset p 0#5 v = 0 ∧
    pitchOffset p range 0 = -(range.toNat : Rat) * p.vphn ∧
    pitchOffset p range 16383 = 8191 / 8192 * (range.toNat : Rat) * p.vphn

/-- The values of 42_engine.md R197, for every parameter set that agrees with its profile. -/
def Obligations.PitchWheelProfileValues : Prop :=
  ∀ p : Params, p.c0Ref = 24 → p.vphn = 64 → p.dacC0 = 0 →
    pitchOffset p 12#5 8192 = 0 ∧ pitchOffset p 12#5 16383 = 24573 / 32 ∧ pitchOffset p 12#5 0 = -768 ∧
    pitchOffset p 12#5 8208 = 3 / 2 ∧ pitchOffset p 12#5 8176 = -(3 / 2) ∧
    convert p 60 0 = 2304#12 ∧ convert p 60 (24573 / 32) = 3072#12 ∧ convert p 60 (-768) = 1536#12 ∧
    convert p 60 (3 / 2) = 2306#12 ∧ convert p 60 (-(3 / 2)) = 2303#12

/-- The glide-time model: the table is read at the clamped glide amount, and the duration is rounded down to whole microseconds;
amounts below 0 read entry 0, amounts above 127 entry 127, and a distance of 0 takes no time (42_engine.md R182). One half-note
lasts 1525 µs at entry 0 and 1 s at entry 127 (70_reset_and_hazards.md R301). R182 gives no entry's value: the clauses with one
take entry 0 = 65535 and entry 127 = 100 from 00_scope.md R7, and entry 127 = 100 is the spec's own reading (decision D22), which
the type of the table makes a constraint of the model (log entry 10, unsafe). -/
def Obligations.GlideDurationModel : Prop :=
  ∀ (t : RateTable) (amt : BitVec 16) (delta : Rat), 0 ≤ delta →
    (∀ i : Nat, (i : Int) = min 127 (max 0 amt.toInt) → ∃ entry : Nat, t.entries[i]? = some entry ∧ 1 ≤ entry ∧
      glideDuration t amt delta = ⌊delta * 100 * 1000000 / (entry : Rat)⌋₊) ∧
    (amt.toInt ≤ 0 → glideDuration t amt delta = ⌊delta * 100000000 / 65535⌋₊) ∧
    (127 ≤ amt.toInt → glideDuration t amt delta = ⌊delta * 1000000⌋₊) ∧
    glideDuration t amt 0 = 0 ∧ glideDuration t 0#16 4 = 6103 ∧
    glideDuration t 0#16 1 = 1525 ∧ glideDuration t 127#16 1 = 1000000

/-- The rate table is read at the clamped glide amount, its entries are legal divisors, and they never rise (20_memory.md R60,
00_scope.md R8). -/
def Obligations.RateTableReadInRange : Prop :=
  ∀ (t : RateTable) (amt : BitVec 16) (i j : Fin 128),
    ((glideIndex amt).val : Int) = min 127 (max 0 amt.toInt) ∧ t.entries[i.val]? = some (rateROM t i) ∧
    1 ≤ rateROM t i ∧ rateROM t i ≤ 65535 ∧ (i ≤ j → rateROM t j ≤ rateROM t i)

/-! ## Flushing -/

/-- The first flush after a `RESET` writes the DAC, whatever the output is then: `RESET` leaves `last_written = NONE`, no event but a
flush changes that, and a flush that finds it so writes (70_reset_and_hazards.md R283). -/
def Obligations.FirstFlushAfterResetWrites : Prop :=
  (∀ s t : State, exec .reset s = .next t → t.eng.lastWritten = none) ∧
  (∀ (i : Instr) (s t : State), (∀ ok, i ≠ .flushTick ok) → exec i s = .next t → s.eng.lastWritten = none →
    t.eng.lastWritten = none) ∧
  (∀ (s u : State) (ok : Bool), s.eng.lastWritten = none → exec (.flushTick ok) s = .next u →
    u.out.dac = some s.eng.outputValue)

/-- The block never writes the same value twice in a row with success between, and a failed write is tried again with the then-current
output, whatever events come between the two flushes. No event but a successful flush and a `RESET` changes `last_written`. So
after a successful flush of `s`, a flush of any state `w` that still holds that `last_written` writes nothing where the output is
still the value of `s`, and the new output where it is not. A failed flush of `s` records nothing, and a flush of any `w` that
still holds that `last_written` writes the output of `w`, unless the output is back at `last_written` (42_engine.md R200,
70_reset_and_hazards.md R295). -/
def Obligations.FlushRepeatsOnlyAfterFailure : Prop :=
  (∀ (i : Instr) (s t : State), i ≠ .flushTick true → i ≠ .reset → exec i s = .next t →
    t.eng.lastWritten = s.eng.lastWritten) ∧
  (∀ (s t w u : State) (ok : Bool), exec (.flushTick true) s = .next t → w.eng.lastWritten = t.eng.lastWritten →
    exec (.flushTick ok) w = .next u →
    t.eng = { s.eng with lastWritten := some s.eng.outputValue } ∧
    (w.eng.outputValue = s.eng.outputValue → u.out.dac = none) ∧
    (w.eng.outputValue ≠ s.eng.outputValue → u.out.dac = some w.eng.outputValue)) ∧
  (∀ (s t w u : State) (ok : Bool), exec (.flushTick false) s = .next t → w.eng.lastWritten = t.eng.lastWritten →
    exec (.flushTick ok) w = .next u →
    t.eng = s.eng ∧
    (s.eng.lastWritten = some w.eng.outputValue → u.out.dac = none) ∧
    (s.eng.lastWritten ≠ some w.eng.outputValue → u.out.dac = some w.eng.outputValue))
end

