-- ==== Sys2Proof/Tests/Slice0.lean ====
section
/-! SUPPORT. The model's own tests: the WellFormed smoke, each instruction's written-out word, one step per vector of spec/95_test_vectors.md
(its name stands in the test's docstring), and for each statement with hypotheses a state and operands that meet them. -/

namespace Sys2Proof.Tests

open Sys2Proof.Machine

/-! ## Helpers -/

/-- The rate table of the test profile TP; its entries 1..126 are free, and no test reads them. -/
def table : RateTable := ⟨65535 :: (List.replicate 126 1000 ++ [100]), by decide +kernel⟩

/-- The test profile TP with a given `INIT_NOTE`. -/
def profile (init : Rat) : Params := ⟨table, 24, 64, 0, init, false, 250, 1000, CfgRegs.defaults⟩

/-- The state after a `RESET` in the profile. -/
def start (init : Rat) : State := State.resetWith (profile init) []

/-- The state after one event; the state itself where the event has no next state. -/
def after (i : Instr) (s : State) : State :=
  match exec i s with
  | .next t => t
  | .fault _ => s
  | .refused _ => s

/-- `start` with `dec[0]` given. -/
def holding (init : Rat) (r : Decoder) : State := { start init with dec0 := r }

/-- The glide 60 → 64 that begins at 0 and ends at 6103, seen at a given `now`. -/
def gliding (now : Nat) : State :=
  { start 60 with now := now, eng := { (start 60).eng with endNote := 64, endTick := 6103, rateFactor := 4 / 6103 } }

/-! ## WellFormed -/

/-- `d = 0` is refused (TM-3). -/
theorem test_wellFormed_refuses_time_zero : ¬ (Instr.time 0).WellFormed := by decide

/-- The least legal `d` is accepted. -/
theorem test_wellFormed_accepts_time_one : (Instr.time 1).WellFormed := by decide

/-- A table with a zero entry, a rising one, and one of the wrong length are refused (00_scope.md R7, R8). -/
theorem test_rateTable_refused :
    RateTable.ofEntries (65535 :: (List.replicate 126 0 ++ [100])) = none ∧
    RateTable.ofEntries (65535 :: 1000 :: 1001 :: (List.replicate 124 1000 ++ [100])) = none ∧
    RateTable.ofEntries (65535 :: (List.replicate 125 1000 ++ [100])) = none := by decide +kernel

/-! ## Decoding, one written-out word per constructor (30_encoding.md R83..R86, R93) -/

theorem test_decode_data : decodeEvent [0, 0, 0b00111100] = .ok (.data .ch0 0x3C#7) ∧
    decodeEvent [0, 1, 0b01111111] = .ok (.data .ch1 0x7F#7) := by decide

theorem test_decode_channelVoice :
    decodeEvent [0, 1, 0b10000101] = .ok (.noteOff .ch1 5#4) ∧ decodeEvent [0, 0, 0b10010011] = .ok (.noteOn .ch0 3#4) ∧
    decodeEvent [0, 0, 0b10100000] = .ok (.polyAt .ch0 0#4) ∧ decodeEvent [0, 0, 0b10110010] = .ok (.cc .ch0 2#4) ∧
    decodeEvent [0, 0, 0b11001111] = .ok (.pc .ch0 15#4) ∧ decodeEvent [0, 1, 0b11010011] = .ok (.chanAt .ch1 3#4) ∧
    decodeEvent [0, 0, 0b11100000] = .ok (.pitchWheel .ch0 0#4) := by decide

theorem test_decode_systemCommon :
    decodeEvent [0, 0, 0b11110000] = .ok (.sysexStart .ch0) ∧ decodeEvent [0, 0, 0b11110001] = .ok (.quarterFrame .ch0) ∧
    decodeEvent [0, 1, 0b11110010] = .ok (.songPos .ch1) ∧ decodeEvent [0, 0, 0b11110011] = .ok (.songSel .ch0) ∧
    decodeEvent [0, 0, 0b11111001] = .ok (.measureEnd .ch0) := by decide

theorem test_decode_undefined :
    decodeEvent [0, 0, 0b11110100] = .ok (.undefF4 .ch0) ∧ decodeEvent [0, 1, 0b11110101] = .ok (.undefF5 .ch1) := by decide

theorem test_decode_realTime :
    decodeEvent [0, 0, 0b11110110] = .ok (.rtF6 .ch0) ∧ decodeEvent [0, 0, 0b11110111] = .ok (.rtF7 .ch0) ∧
    decodeEvent [0, 0, 0b11111000] = .ok (.timingClock .ch0) ∧ decodeEvent [0, 1, 0b11111010] = .ok (.start .ch1) ∧
    decodeEvent [0, 0, 0b11111011] = .ok (.rtFB .ch0) ∧ decodeEvent [0, 0, 0b11111100] = .ok (.rtFC .ch0) ∧
    decodeEvent [0, 0, 0b11111101] = .ok (.rtFD .ch0) ∧ decodeEvent [0, 0, 0b11111110] = .ok (.rtFE .ch0) ∧
    decodeEvent [0, 0, 0b11111111] = .ok (.rtFF .ch0) := by decide

theorem test_decode_portEvents :
    decodeEvent [1, 1] = .ok (.reinit .ch1) ∧ decodeEvent [2] = .ok .glideTick ∧ decodeEvent [3, 1] = .ok (.flushTick true) ∧
    decodeEvent [4, 4, 0xFFFF] = .ok (.cfgWrite 4#3 0xFFFF#16) ∧ decodeEvent [5, 7] = .ok (.cfgRead 7#3) ∧
    decodeEvent [6, 60000] = .ok (.time 60000) ∧ decodeEvent [7] = .ok .reset := by decide

theorem test_decode_rejects_by_name :
    decodeEvent [] = .error .noCode ∧ decodeEvent [8] = .error (.unknownCode 8) ∧ decodeEvent [7, 0] = .error (.operandCount 7) ∧
    decodeEvent [0, 2, 0] = .error (.channelRange 2) ∧ decodeEvent [0, 0, 256] = .error (.byteRange 256) ∧
    decodeEvent [3, 2] = .error (.dacOkRange 2) ∧ decodeEvent [5, 8] = .error (.addressRange 8) ∧
    decodeEvent [4, 0, 65536] = .error (.wordRange 65536) := by decide

/-- The opcode table's own numbering: a byte class and a port event. -/
theorem test_decodeTableWord :
    decodeTableWord 8 0xF2 = some (.songPos .ch0) ∧ decodeTableWord 8 3 = some (.flushTick false) ∧
    decodeTableWord 8 0 = some (.data .ch0 0#7) := by decide

/-! ## The Channel Decoder -/

/-- DEC-1: data while idle. -/
theorem test_data_idle : (after (.data .ch0 0x3C#7) (start 24)).dec0 = Decoder.reset := by decide +kernel

/-- DEC-3: the first data byte goes to slot 1. -/
theorem test_data_stored : (after (.data .ch0 0x3C#7) (holding 24 ⟨0x90#8, .noteOn, 0#7, 0#7, 1#2, 3#2⟩)).dec0 =
    ⟨0x90#8, .noteOn, 0x3C#7, 0#7, 2#2, 3#2⟩ := by decide +kernel

/-- DEC-4: the message, and running status kept. -/
theorem test_data_completes_noteOn :
    (after (.data .ch0 0x64#7) (holding 24 ⟨0x90#8, .noteOn, 0x3C#7, 0#7, 2#2, 3#2⟩)).dec0 =
      ⟨0x90#8, .noteOn, 0x3C#7, 0x64#7, 1#2, 3#2⟩ ∧
    (after (.data .ch0 0x64#7) (holding 24 ⟨0x90#8, .noteOn, 0x3C#7, 0#7, 2#2, 3#2⟩)).out.msg =
      some ⟨.ch0, 0x90#8, 0x3C#7, 0x64#7, 3#2⟩ := by decide +kernel

/-- DEC-10: a two-byte message, `data2 = 0`. -/
theorem test_data_completes_pc :
    (after (.data .ch0 0x05#7) (holding 24 ⟨0xC3#8, .pc, 0#7, 0x11#7, 1#2, 2#2⟩)).out.msg =
      some ⟨.ch0, 0xC3#8, 0x05#7, 0#7, 2#2⟩ := by decide +kernel

/-- DEC-18: a system common message ends idle. -/
theorem test_data_completes_songPos :
    (after (.data .ch0 0x20#7) (holding 24 ⟨0#8, .songPos, 0x10#7, 0#7, 2#2, 3#2⟩)).dec0 =
      ⟨0#8, .idle, 0x10#7, 0x20#7, 0#2, 0#2⟩ ∧
    (after (.data .ch0 0x20#7) (holding 24 ⟨0#8, .songPos, 0x10#7, 0#7, 2#2, 3#2⟩)).out.msg =
      some ⟨.ch0, 0xF2#8, 0x10#7, 0x20#7, 3#2⟩ := by decide +kernel

/-- DEC-2, DEC-30, DEC-36: a status byte opens or restarts a message and keeps the data slots. -/
theorem test_channelVoice_status :
    (after (.noteOn .ch0 0#4) (start 24)).dec0 = ⟨0x90#8, .noteOn, 0#7, 0#7, 1#2, 3#2⟩ ∧
    (after (.cc .ch0 0#4) (holding 24 ⟨0x90#8, .noteOn, 0x3C#7, 0#7, 2#2, 3#2⟩)).dec0 =
      ⟨0xB0#8, .cc, 0x3C#7, 0#7, 1#2, 3#2⟩ ∧
    (after (.chanAt .ch1 3#4) (start 24)).dec1 = ⟨0xD3#8, .chanAt, 0#7, 0#7, 1#2, 2#2⟩ := by decide +kernel

/-- DEC-32: a system common status cancels running status and keeps the data slots. -/
theorem test_systemCommon_status :
    (after (.quarterFrame .ch0) (holding 24 ⟨0x90#8, .noteOn, 0x3C#7, 0x64#7, 1#2, 3#2⟩)).dec0 =
      ⟨0#8, .quarterFrame, 0x3C#7, 0x64#7, 1#2, 2#2⟩ := by decide +kernel

/-- DEC-25: an undefined status byte inside a message. -/
theorem test_undefF4 : (after (.undefF4 .ch0) (holding 24 ⟨0x90#8, .noteOn, 0x3C#7, 0#7, 2#2, 3#2⟩)).dec0 =
    ⟨0x90#8, .noteOn, 0x3C#7, 0#7, 2#2, 3#2⟩ := by decide +kernel

/-- DEC-23: a real-time byte inside a message. -/
theorem test_realTime_inside_message :
    (after (.rtFE .ch0) (holding 24 ⟨0x90#8, .noteOn, 0x3C#7, 0#7, 2#2, 3#2⟩)).dec0 = ⟨0x90#8, .noteOn, 0x3C#7, 0#7, 2#2, 3#2⟩ ∧
    (after (.rtFE .ch0) (holding 24 ⟨0x90#8, .noteOn, 0x3C#7, 0#7, 2#2, 3#2⟩)).out.msg =
      some ⟨.ch0, 0xFE#8, 0#7, 0#7, 1#2⟩ := by decide +kernel

/-! ## The Message Router -/

/-- RTR-13, RTR-14, RTR-16, RTR-17: the selected clock counts modulo 24. -/
theorem test_timingClock :
    (after (.timingClock .ch1) { start 24 with cfg := { CfgRegs.defaults with clkSrc := 1#2 }, beatCount := 23#5 }).beatCount = 0#5 ∧
    (after (.timingClock .ch0) { start 24 with cfg := { CfgRegs.defaults with clkSrc := 1#2 }, beatCount := 5#5 }).beatCount = 5#5 ∧
    (after (.timingClock .ch0) { start 24 with beatCount := 5#5 }).beatCount = 5#5 := by decide +kernel

/-- R161's example: `CLK_SRC = 1`, `beat_count = 7`. -/
theorem test_start :
    (after (.start .ch1) { start 24 with cfg := { CfgRegs.defaults with clkSrc := 1#2 }, beatCount := 7#5 }).beatCount = 0#5 ∧
    (after (.start .ch0) { start 24 with cfg := { CfgRegs.defaults with clkSrc := 1#2 }, beatCount := 7#5 }).beatCount = 7#5 := by
  decide +kernel

/-- S2: `FILTER0 = 5` drops a Note-On of MIDI channel 2. -/
theorem test_filter_drops :
    (after (.data .ch0 0x64#7) { holding 24 ⟨0x91#8, .noteOn, 0x3C#7, 0#7, 2#2, 3#2⟩ with
      cfg := { CfgRegs.defaults with filter0 := 5#5 } }).eng = (start 24).eng := by decide +kernel

/-- RTR-3: `FILTER0 = 16` passes nibble F. -/
theorem test_filter_passes :
    (after (.data .ch0 0x7F#7) { holding 60 ⟨0x9F#8, .noteOn, 0x40#7, 0#7, 2#2, 3#2⟩ with
      cfg := { CfgRegs.defaults with filter0 := 16#5 } }).eng.endNote = 64 := by decide +kernel

/-! ## The Glide/Pitch Engine -/

/-- ST-2: a downward glide. -/
theorem test_setTarget :
    (after (.data .ch0 0x7F#7) (holding 60 ⟨0x90#8, .noteOn, 0x38#7, 0#7, 2#2, 3#2⟩)).eng.endTick = 6103 ∧
    (after (.data .ch0 0x7F#7) (holding 60 ⟨0x90#8, .noteOn, 0x38#7, 0#7, 2#2, 3#2⟩)).eng.rateFactor = -4 / 6103 := by decide +kernel

/-- GD-10: a distance of 1/10000 takes no time, so the glide is a jump. -/
theorem test_setTarget_degenerate :
    (({ start 24 with eng := { (start 24).eng with currentNote := 609999 / 10000 } } : State).setTarget 61#7).eng.beginNote = 61 ∧
    (({ start 24 with eng := { (start 24).eng with currentNote := 609999 / 10000 } } : State).setTarget 61#7).eng.endTick = 0 := by
  decide +kernel

/-- TK-4: in the middle of a glide. -/
theorem test_tick : (after .glideTick (gliding 3000)).eng.currentNote = 378180 / 6103 ∧
    (after .glideTick (gliding 3000)).eng.outputValue = 2430#12 := by decide +kernel

/-- TK-5, TK-6: at the end of a glide and after it. -/
theorem test_tick_end : (after .glideTick (gliding 6103)).eng.currentNote = 64 ∧
    (after .glideTick (gliding 6104)).eng.outputValue = 2560#12 := by decide +kernel

/-- CV-3, CV-5, CV-6, CV-9: clamp and ties. -/
theorem test_convert : convert (profile 24) 88 0 = 4095#12 ∧ convert (profile 24) 0 0 = 0#12 ∧
    convert (profile 24) 60 (3 / 2) = 2306#12 ∧ convert (profile 24) 24 (-1 / 2) = 0#12 := by decide +kernel

/-- CV-11: Glissando truncates. -/
theorem test_outNote : outNote 1#1 (241 / 4) = 60 ∧ outNote 0#1 (241 / 4) = 241 / 4 ∧ outNote 1#1 (-3 / 2) = -1 := by decide +kernel

/-- PW-8: the wheel full up at the reset range. -/
theorem test_pitchWheel :
    (after (.data .ch0 0x7F#7) (holding 60 ⟨0xE0#8, .pitchWheel, 0x7F#7, 0#7, 2#2, 3#2⟩)).eng.outputValue = 2432#12 ∧
    (after (.data .ch0 0x7F#7) (holding 60 ⟨0xE0#8, .pitchWheel, 0x7F#7, 0#7, 2#2, 3#2⟩)).eng.pitchWheelOffset = 8191 / 64 := by
  decide +kernel

/-- FL-1, FL-3: a failed write is not recorded, a successful one is. -/
theorem test_flush :
    (after (.flushTick false) (start 60)).out.dac = some 2304#12 ∧ (after (.flushTick false) (start 60)).eng.lastWritten = none ∧
    (after (.flushTick true) (start 60)).eng.lastWritten = some 2304#12 := by decide +kernel

/-! ## Configuration, time and reset -/

/-- CF-1, CF-2, CF-14: `FILTER0`. -/
theorem test_cfgWrite_filter0 :
    (after (.cfgWrite 0#3 16#16) (start 24)).cfg.filter0 = 16#5 ∧
    (after (.cfgWrite 0#3 17#16) (start 24)).out.cfgAccepted = some false ∧
    (after (.cfgWrite 0#3 0x8000#16) (start 24)).cfg = CfgRegs.defaults := by decide +kernel

/-- CF-4 to CF-13: the bounds of the other addresses. -/
theorem test_cfgWrite_bounds :
    (after (.cfgWrite 2#3 3#16) (start 24)).out.cfgAccepted = some false ∧
    (after (.cfgWrite 3#3 24#16) (start 24)).cfg.pwRange = 24#5 ∧
    (after (.cfgWrite 3#3 25#16) (start 24)).out.cfgAccepted = some false ∧
    (after (.cfgWrite 4#3 0xFFFF#16) (start 24)).cfg.glideAmt.toInt = -1 ∧
    (after (.cfgWrite 5#3 2#16) (start 24)).out.cfgAccepted = some false ∧
    (after (.cfgWrite 6#3 1#16) (start 24)).out.cfgAccepted = some false := by decide +kernel

/-- CR-1, CR-2: the reset values read back. -/
theorem test_cfgRead :
    (after (.cfgRead 2#3) (start 24)).out.cfgRdata = some 2#16 ∧ (after (.cfgRead 3#3) (start 24)).out.cfgRdata = some 2#16 ∧
    (after (.cfgRead 7#3) (start 24)).out.cfgRdata = some 0#16 := by decide +kernel

/-- GD-11, GD-13: the glide amount is clamped before the lookup. -/
theorem test_glideIndex : glideIndex 0xFFFF#16 = 0 ∧ glideIndex 200#16 = 127 ∧ glideIndex 64#16 = 64 := by decide +kernel

/-- RI-1, RI-3: one decoder only. -/
theorem test_reinit :
    (after (.reinit .ch0) (holding 24 ⟨0x90#8, .noteOn, 0x3C#7, 0#7, 2#2, 3#2⟩)).dec0 = Decoder.reset ∧
    (after (.reinit .ch1) (holding 24 ⟨0x90#8, .noteOn, 0x3C#7, 0#7, 2#2, 3#2⟩)).dec0 =
      ⟨0x90#8, .noteOn, 0x3C#7, 0#7, 2#2, 3#2⟩ := by decide +kernel

/-- TM-1, and R226's example. -/
theorem test_time : (after (.time 1) (start 24)).now = 1 ∧ (after (.time 500) { start 24 with now := 1000 }).now = 1500 := by
  decide +kernel

/-- RS-2, RS-4: the output at reset, in the reset mode. -/
theorem test_reset : (after .reset (gliding 9)).eng.outputValue = 2304#12 ∧
    (after .reset { start 24 with params := { profile (121 / 2) with
      cfgReset := { CfgRegs.defaults with glideMode := 1#1 } } }).eng.outputValue = 2304#12 := by decide +kernel

/-- The first step after reset runs the word put where it fetches. -/
theorem test_withFetchWord : step (State.reset.withFetchWord 8 0x93) = exec (.noteOn .ch0 3#4) State.reset := rfl

/-! ## Witnesses: a state and operands that meet each statement's hypotheses, at the boundaries of its clauses -/

theorem witness_StepRunsDecodedEvent :
    ({ start 24 with input := [[6, 1], [2]] } : State).input = [6, 1] :: [[2]] ∧ decodeEvent [6, 1] = .ok (.time 1) ∧
    (Instr.time 1).WellFormed := by decide +kernel

theorem witness_StepWithoutEventWaitsOrRefuses :
    (start 24).input = [] ∧ ({ start 24 with input := [[8]] } : State).input = [8] :: [] ∧
    decodeEvent [8] = .error (.unknownCode 8) := by decide +kernel

theorem witness_PresentedTableWordRunsNext :
    decodeTableWord 8 0 = some (.data .ch0 0#7) ∧ decodeTableWord 8 7 = some .reset ∧ decodeTableWord 8 0xFF = some (.rtFF .ch0) := by
  decide

theorem witness_DecodeEncodeRoundTrip : (Instr.time 1).WellFormed ∧ (Instr.data .ch1 0x7F#7).WellFormed := by decide

theorem witness_EncodeOfDecodedEvent :
    decodeEvent [0, 1, 255] = .ok (.rtFF .ch1) ∧ decodeEvent [6, 1] = .ok (.time 1) ∧
    decodeEvent [4, 7, 65535] = .ok (.cfgWrite 7#3 65535#16) := by decide

theorem witness_StatusByteOpensMessage :
    classOf 0x80#8 = .channelVoice ∧ classOf 0xEF#8 = .channelVoice ∧ classOf 0xF0#8 = .systemCommon ∧
    classOf 0xF9#8 = .systemCommon := by decide

theorem witness_UndefinedStatusIgnored : 0xF4#8 ∈ [0xF4#8, 0xF5#8] ∧ 0xF5#8 ∈ [0xF4#8, 0xF5#8] := by decide

theorem witness_DataByteWhileIdleDiscarded :
    ((start 24).dec .ch0).bytesExpected = 0#2 ∧ ((start 24).dec .ch1).bytesExpected = 0#2 := by decide +kernel

theorem witness_DataByteStoredByPosition :
    ((holding 24 ⟨0x90#8, .noteOn, 0#7, 0#7, 1#2, 3#2⟩).dec .ch0).bytesExpected ≠ 0#2 ∧
    ((holding 24 ⟨0x90#8, .noteOn, 0#7, 0#7, 1#2, 3#2⟩).dec .ch0).bytesReceived + 1#2 ≠
      ((holding 24 ⟨0x90#8, .noteOn, 0#7, 0#7, 1#2, 3#2⟩).dec .ch0).bytesExpected := by decide +kernel

/-- One state for each length and each system common kind. -/
theorem witness_LastDataByteCompletesMessage :
    ∀ r ∈ [(⟨0x90#8, .noteOn, 0#7, 0#7, 2#2, 3#2⟩ : Decoder), ⟨0xCF#8, .pc, 0#7, 0#7, 1#2, 2#2⟩,
      ⟨0#8, .sysexStart, 0#7, 0#7, 2#2, 3#2⟩, ⟨0#8, .quarterFrame, 0#7, 0#7, 1#2, 2#2⟩, ⟨0#8, .songPos, 0#7, 0#7, 2#2, 3#2⟩,
      ⟨0#8, .songSel, 0#7, 0#7, 1#2, 2#2⟩, ⟨0#8, .measureEnd, 0#7, 0#7, 1#2, 2#2⟩],
      DecoderInv ((holding 24 r).dec .ch0) ∧ ((holding 24 r).dec .ch0).bytesExpected ≠ 0#2 ∧
      ((holding 24 r).dec .ch0).bytesReceived + 1#2 = ((holding 24 r).dec .ch0).bytesExpected := by decide +kernel

/-- A glide of four half-notes (ST-1), past both forms of the filter. -/
theorem witness_NoteOnSetsTarget :
    (holding 60 ⟨0x9#4 ++ 15#4, .noteOn, 64#7, 0#7, 2#2, 3#2⟩).dec .ch0 = ⟨0x9#4 ++ 15#4, .noteOn, 64#7, 0#7, 2#2, 3#2⟩ ∧
    channelFilter (start 60).cfg .ch0 = 0#5 ∧
    (channelFilter { CfgRegs.defaults with filter0 := 16#5 } .ch0).toNat = (15#4).toNat + 1 ∧
    ¬((start 60).params.vel0IsNoteOff = true ∧ (0#7) = (0#7)) ∧
    6103 = ⌊|((64#7).toNat : Rat) - (start 60).eng.currentNote| * 100 * 1000000 /
      (rateROM (start 60).params.rateTable (glideIndex (start 60).cfg.glideAmt) : Rat)⌋₊ := by
  refine ⟨rfl, rfl, rfl, by decide, ?_⟩
  have h : rateROM (start 60).params.rateTable (glideIndex (start 60).cfg.glideAmt) = 65535 := by decide +kernel
  have h' : (start 60).eng.currentNote = 60 := rfl
  rw [h, h', eq_comm, Nat.floor_eq_iff (by norm_num)]
  norm_num

/-- The same note: no distance, so no time (ST-3). -/
theorem witness_NoteOnSetsTarget_sameNote :
    0 = ⌊|((60#7).toNat : Rat) - (start 60).eng.currentNote| * 100 * 1000000 /
      (rateROM (start 60).params.rateTable (glideIndex (start 60).cfg.glideAmt) : Rat)⌋₊ := by
  have h' : (start 60).eng.currentNote = 60 := rfl
  rw [h']
  norm_num

theorem witness_ZeroVelocityNoteOnAsNoteOff :
    ({ holding 60 ⟨0x90#8, .noteOn, 0x40#7, 0#7, 2#2, 3#2⟩ with params := { profile 60 with vel0IsNoteOff := true } } : State).dec .ch0 =
      ⟨0x9#4 ++ 0#4, .noteOn, 0x40#7, 0#7, 2#2, 3#2⟩ ∧
    ({ profile 60 with vel0IsNoteOff := true } : Params).vel0IsNoteOff = true := by decide +kernel

theorem witness_PitchWheelUpdatesOffsetAndOutput :
    (holding 60 ⟨0xE0#8, .pitchWheel, 0#7, 0#7, 2#2, 3#2⟩).dec .ch0 = ⟨0xE#4 ++ 0#4, .pitchWheel, 0#7, 0#7, 2#2, 3#2⟩ ∧
    channelFilter (start 60).cfg .ch0 = 0#5 ∧ (channelFilter { CfgRegs.defaults with filter0 := 1#5 } .ch0).toNat = (0#4).toNat + 1 ∧
    (-128 : Rat) = ((((0#7).toNat * 128 + (0#7).toNat : Nat) : Rat) - 8192) * ((start 60).cfg.pwRange.toNat : Rat) *
      (start 60).params.vphn / 8192 := by decide +kernel

theorem witness_HandlerlessVoiceMessageOnlyEmits :
    (∀ p ∈ [(Kind.noteOff, 0x8#4), (Kind.polyAt, 0xA#4), (Kind.cc, 0xB#4)],
      (holding 24 ⟨p.2 ++ 15#4, p.1, 0#7, 0#7, 2#2, 3#2⟩).dec .ch0 = ⟨p.2 ++ 15#4, p.1, 0#7, 0#7, 2#2, 3#2⟩) ∧
    (∀ p ∈ [(Kind.pc, 0xC#4), (Kind.chanAt, 0xD#4)],
      (holding 24 ⟨p.2 ++ 0#4, p.1, 0#7, 0#7, 1#2, 2#2⟩).dec .ch0 = ⟨p.2 ++ 0#4, p.1, 0#7, 0#7, 1#2, 2#2⟩) := by decide +kernel

/-- `FILTER0 = 16` and the MIDI channels 1 and 15. -/
theorem witness_FilteredMessageDropped :
    (channelFilter { CfgRegs.defaults with filter0 := 16#5 } .ch0).toNat ≠ 0 ∧
    (channelFilter { CfgRegs.defaults with filter0 := 16#5 } .ch0).toNat ≠ (0#4).toNat + 1 ∧
    (channelFilter { CfgRegs.defaults with filter0 := 16#5 } .ch0).toNat ≠ (14#4).toNat + 1 ∧
    ({ holding 24 ⟨0x90#8, .noteOn, 0#7, 0#7, 2#2, 3#2⟩ with cfg := { CfgRegs.defaults with filter0 := 16#5 } } : State).dec .ch0 =
      ⟨0x9#4 ++ 0#4, .noteOn, 0#7, 0#7, 2#2, 3#2⟩ ∧
    ({ holding 24 ⟨0xC0#8, .pc, 0#7, 0#7, 1#2, 2#2⟩ with cfg := { CfgRegs.defaults with filter0 := 16#5 } } : State).dec .ch0 =
      ⟨0xC#4 ++ 0#4, .pc, 0#7, 0#7, 1#2, 2#2⟩ := by decide +kernel

theorem witness_SystemCommonMessageReturnsToIdle :
    (∀ p ∈ [(Kind.sysexStart, 0xF0#8), (Kind.songPos, 0xF2#8)],
      (holding 24 ⟨0#8, p.1, 0#7, 0#7, 2#2, 3#2⟩).dec .ch0 = ⟨0#8, p.1, 0#7, 0#7, 2#2, 3#2⟩) ∧
    (∀ p ∈ [(Kind.quarterFrame, 0xF1#8), (Kind.songSel, 0xF3#8), (Kind.measureEnd, 0xF9#8)],
      (holding 24 ⟨0#8, p.1, 0#7, 0#7, 1#2, 2#2⟩).dec .ch0 = ⟨0#8, p.1, 0#7, 0#7, 1#2, 2#2⟩) := by decide +kernel

theorem witness_ReinitResetsOneDecoder :
    (after (.reinit .ch0) (start 24)) =
      ({ start 24 with out := Outputs.quiet } : State).setDec .ch0 ⟨0#8, .idle, 0#7, 0#7, 0#2, 0#2⟩ := rfl

/-- Both branches, and both corners where the engine's invariants hold. -/
theorem witness_GlideTickInterpolatesAndRecomputes :
    (gliding 6104).now > (gliding 6104).eng.endTick ∧ ¬(gliding 6103).now > (gliding 6103).eng.endTick ∧
    EngineInv (gliding 6103) ∧ (gliding 6103).now = (gliding 6103).eng.endTick ∧
    EngineInv (gliding 0) ∧ (gliding 0).now = (gliding 0).eng.beginTick := by decide +kernel

theorem witness_FlushWritesOnChange :
    ({ start 60 with eng := { (start 60).eng with lastWritten := some 2304#12 } } : State).eng.lastWritten =
      some (start 60).eng.outputValue ∧
    (start 60).eng.lastWritten ≠ some (start 60).eng.outputValue := by decide +kernel

theorem witness_CfgWriteAppliedWholeOrNotAtAll :
    (after (.cfgWrite 0#3 16#16) (start 24)).out = { Outputs.quiet with cfgAccepted := some true } ∧
    (after (.cfgWrite 0#3 17#16) (start 24)).out = { Outputs.quiet with cfgAccepted := some false } := by decide +kernel

theorem witness_AcceptedWriteReadsBack :
    exec (.cfgWrite 3#3 24#16) (start 24) = .next (after (.cfgWrite 3#3 24#16) (start 24)) ∧
    (after (.cfgWrite 3#3 24#16) (start 24)).out.cfgAccepted = some true := ⟨rfl, by decide +kernel⟩

theorem witness_CfgWriteKeepsLegalValues :
    (start 24).cfg.legal = true ∧ exec (.cfgWrite 0#3 16#16) (start 24) = .next (after (.cfgWrite 0#3 16#16) (start 24)) :=
  ⟨by decide +kernel, rfl⟩

theorem witness_TimeAdvancesNowAlone : 1 ≤ 1 := by decide

theorem witness_ResetEventMeetsInvariants :
    (gliding 9).params.cfgReset.legal = true ∧ exec .reset (gliding 9) = .next (after .reset (gliding 9)) :=
  ⟨by decide +kernel, rfl⟩

/-- In the middle of a glide, with a tick waiting. -/
theorem witness_StepKeepsInvariants :
    Inv { gliding 3000 with input := [[2]] } ∧
    step { gliding 3000 with input := [[2]] } = .next (after .glideTick (gliding 3000)) := ⟨by decide +kernel, rfl⟩

theorem witness_EveryLegalEventCompletes : (Instr.time 1).WellFormed ∧ Instr.reset.WellFormed := by decide

theorem witness_RunningStatusEquivalence :
    (classOf 0x90#8 = .channelVoice ∧ [0x3C#7, 0x64#7].length + 1 = (kindOf 0x90#8).len.toNat ∧
      [0x3E#7, 0x40#7].length + 1 = (kindOf 0x90#8).len.toNat) ∧
    (classOf 0xC3#8 = .channelVoice ∧ [5#7].length + 1 = (kindOf 0xC3#8).len.toNat ∧
      [6#7].length + 1 = (kindOf 0xC3#8).len.toNat) := by decide

theorem witness_RealTimeByteInsertedAnywhere :
    classOf 0xF8#8 = .realTime ∧ feedBytes .ch0 [0x90#8] (start 24) = some (after (.noteOn .ch0 0#4) (start 24), []) ∧
    feedBytes .ch0 [] (after (.noteOn .ch0 0#4) (start 24)) = some (after (.noteOn .ch0 0#4) (start 24), []) :=
  ⟨by decide, rfl, rfl⟩

theorem witness_UndefinedByteInsertedAnywhere :
    classOf 0xF4#8 = .undefined ∧ classOf 0xF5#8 = .undefined ∧
    feedBytes .ch0 [0x90#8] (start 24) = some (after (.noteOn .ch0 0#4) (start 24), []) ∧
    feedBytes .ch0 [] (after (.noteOn .ch0 0#4) (start 24)) = some (after (.noteOn .ch0 0#4) (start 24), []) :=
  ⟨by decide, by decide, rfl, rfl⟩

/-- Two states that differ outside `dec[0]`. -/
theorem witness_ByteEffectDependsOnItsDecoderOnly :
    (start 24).dec .ch0 = (gliding 9).dec .ch0 ∧ start 24 ≠ gliding 9 ∧
    exec (decodeByte .ch0 0x90#8) (start 24) = .next (after (.noteOn .ch0 0#4) (start 24)) ∧
    exec (decodeByte .ch0 0x90#8) (gliding 9) = .next (after (.noteOn .ch0 0#4) (gliding 9)) :=
  ⟨rfl, by decide +kernel, rfl, rfl⟩

theorem witness_NowMovesOnlyByTimeAndReset :
    exec .reset (gliding 9) = .next (after .reset (gliding 9)) ∧ exec (.time 1) (gliding 9) = .next (after (.time 1) (gliding 9)) ∧
    exec .glideTick (gliding 9) = .next (after .glideTick (gliding 9)) := ⟨rfl, rfl, rfl⟩

theorem witness_EngineRegistersKeepTheirWriters :
    exec .glideTick (gliding 9) = .next (after .glideTick (gliding 9)) ∧ Instr.glideTick ≠ .reset ∧
    (∀ c d, Instr.glideTick ≠ .data c d) ∧ (∀ ok, Instr.glideTick ≠ .flushTick ok) ∧ Instr.flushTick true ≠ .glideTick :=
  ⟨rfl, by decide, by simp, by simp, by decide⟩

theorem witness_OtherRegistersKeepTheirWriters :
    Inv (gliding 9) ∧ exec .glideTick (gliding 9) = .next (after .glideTick (gliding 9)) ∧ Instr.glideTick ≠ .reset ∧
    (∀ c, Instr.glideTick ≠ .timingClock c) ∧ (∀ c, Instr.glideTick ≠ .start c) ∧ (∀ a w, Instr.glideTick ≠ .cfgWrite a w) ∧
    (∀ c b, Instr.glideTick ≠ decodeByte c b) ∧ (∀ c, Instr.glideTick ≠ .reinit c) :=
  ⟨by decide +kernel, rfl, by decide, by simp, by simp, by simp, fun c => by cases c <;> decide +kernel, by simp⟩

theorem witness_OutputPortsKeepTheirDrivers :
    exec .glideTick (gliding 9) = .next (after .glideTick (gliding 9)) ∧ (∀ c b, Instr.glideTick ≠ decodeByte c b) ∧
    (∀ ok, Instr.glideTick ≠ .flushTick ok) ∧ (∀ a w, Instr.glideTick ≠ .cfgWrite a w) ∧ Instr.glideTick ≠ .reset ∧
    (∀ a, Instr.glideTick ≠ .cfgRead a) :=
  ⟨rfl, fun c => by cases c <;> decide +kernel, by simp, by simp, by decide, by simp⟩

theorem witness_TickIdempotentAfterGlide :
    (gliding 6104).now > (gliding 6104).eng.endTick ∧
    exec .glideTick (gliding 6104) = .next (after .glideTick (gliding 6104)) := ⟨by decide +kernel, rfl⟩

theorem witness_TickMovesTowardTargetWithoutPassing :
    EngineInv (gliding 0) ∧ (gliding 0).now ≤ 6103 ∧ exec .glideTick (gliding 0) = .next (after .glideTick (gliding 0)) ∧
    exec .glideTick { gliding 0 with now := 6103 } = .next (after .glideTick { gliding 0 with now := 6103 }) :=
  ⟨by decide +kernel, by decide +kernel, rfl, rfl⟩

/-- The last microsecond of a glide, and its end. -/
theorem witness_TickReachesIdlePhase :
    EngineInv (gliding 6103) ∧ (gliding 6103).now ≥ (gliding 6103).eng.endTick ∧
    exec .glideTick (gliding 6103) = .next (after .glideTick (gliding 6103)) ∧
    EngineInv (gliding 6102) ∧ (gliding 6102).now < (gliding 6102).eng.endTick ∧
    (gliding 6102).eng.beginNote ≠ (gliding 6102).eng.endNote ∧
    exec .glideTick (gliding 6102) = .next (after .glideTick (gliding 6102)) :=
  ⟨by decide +kernel, by decide +kernel, rfl, by decide +kernel, by decide +kernel, by decide +kernel, rfl⟩

theorem witness_ConvertMonotone : 0 < (profile 24).vphn ∧ (60 : Rat) ≤ 61 ∧ (-3 / 2 : Rat) ≤ 3 / 2 := by decide +kernel

theorem witness_GlissandoFollowsIntegerPart : (0 : Rat) ≤ 60 ∧ (0 : Rat) ≤ 121 / 2 ∧ ⌊(60 : Rat)⌋ = ⌊(121 / 2 : Rat)⌋ := by
  decide +kernel

theorem witness_PitchWheelProfileValues : (profile 24).c0Ref = 24 ∧ (profile 24).vphn = 64 ∧ (profile 24).dacC0 = 0 := by
  decide +kernel

/-- Both ends of the glide amount, and the index in the middle. -/
theorem witness_GlideDurationModel :
    (0 : Rat) ≤ 0 ∧ ((64 : Nat) : Int) = min 127 (max 0 (64#16).toInt) ∧ (0#16).toInt ≤ 0 ∧ (0x8000#16).toInt ≤ 0 ∧
    127 ≤ (127#16).toInt ∧ 127 ≤ (0x7FFF#16).toInt := by decide +kernel

theorem witness_RateTableReadInRange : (0 : Fin 128) ≤ 0 ∧ (0 : Fin 128) ≤ 127 := by decide

theorem witness_FirstFlushAfterResetWrites :
    exec .reset (gliding 9) = .next (after .reset (gliding 9)) ∧ (∀ ok, Instr.glideTick ≠ .flushTick ok) ∧
    exec .glideTick (gliding 9) = .next (after .glideTick (gliding 9)) ∧ (gliding 9).eng.lastWritten = none ∧
    exec (.flushTick false) (gliding 9) = .next (after (.flushTick false) (gliding 9)) := ⟨rfl, by simp, rfl, rfl, rfl⟩

/-- `start 60` has the output 2304; `moved` is a later state whose output a pitch wheel moved to 2432, with the same `last_written`. -/
def moved (s : State) : State := { s with now := s.now + 9, eng := { s.eng with outputValue := 2432#12 } }

/-- After a success, the output as it was and moved. -/
theorem witness_FlushRepeatsOnlyAfterFailure :
    (Instr.flushTick false ≠ .flushTick true ∧ Instr.flushTick false ≠ .reset ∧
      exec (.flushTick false) (start 60) = .next (after (.flushTick false) (start 60))) ∧
    exec (.flushTick true) (start 60) = .next (after (.flushTick true) (start 60)) ∧
    (after (.flushTick true) (start 60)).eng.outputValue = (start 60).eng.outputValue ∧
    (moved (after (.flushTick true) (start 60))).eng.lastWritten = (after (.flushTick true) (start 60)).eng.lastWritten ∧
    (moved (after (.flushTick true) (start 60))).eng.outputValue ≠ (start 60).eng.outputValue ∧
    exec (.flushTick true) (moved (after (.flushTick true) (start 60))) =
      .next (after (.flushTick true) (moved (after (.flushTick true) (start 60)))) := by
  refine ⟨⟨by decide, by decide, rfl⟩, rfl, by decide +kernel, rfl, by decide +kernel, rfl⟩

/-- After a failure: a first write that fails, and FL-8, where the output is back at `last_written` in the next flush. -/
theorem witness_FlushRepeatsOnlyAfterFailure_failed :
    exec (.flushTick false) (start 60) = .next (after (.flushTick false) (start 60)) ∧
    (moved (after (.flushTick false) (start 60))).eng.lastWritten = (after (.flushTick false) (start 60)).eng.lastWritten ∧
    (start 60).eng.lastWritten ≠ some (moved (after (.flushTick false) (start 60))).eng.outputValue ∧
    exec (.flushTick false) (moved (after (.flushTick true) (start 60))) =
      .next (after (.flushTick false) (moved (after (.flushTick true) (start 60)))) ∧
    (after (.flushTick true) (start 60)).eng.lastWritten =
      (after (.flushTick false) (moved (after (.flushTick true) (start 60)))).eng.lastWritten ∧
    (moved (after (.flushTick true) (start 60))).eng.lastWritten = some (after (.flushTick true) (start 60)).eng.outputValue := by
  refine ⟨rfl, rfl, by decide +kernel, rfl, by decide +kernel, by decide +kernel⟩

end Sys2Proof.Tests
end

section
/-! PROOFS. The rounding of 00_scope.md R11: the two branches of `roundHalfAway` in the library's floor, and that it rounds to
nearest with ties away from zero. -/

namespace Sys2Proof.Proofs.Scope

open Sys2Proof.Machine

/-! ## The branches of `roundHalfAway` -/

theorem roundHalfAway_of_nonneg {x : Rat} (hx : 0 ≤ x) : roundHalfAway x = ⌊x + 1 / 2⌋ :=
  if_neg (not_lt.2 hx)

/-- The factor `sign(x)` of R11: below zero, rounding is the mirror image of rounding above it. -/
theorem roundHalfAway_of_neg {x : Rat} (hx : x < 0) : roundHalfAway x = -roundHalfAway (-x) := by
  rw [roundHalfAway_of_nonneg (neg_nonneg.2 hx.le)]
  exact if_pos hx

/-- Above zero a value is rounded by less than a half down and by at most a half up: a tie goes up. -/
theorem roundHalfAway_bounds {x : Rat} (hx : 0 ≤ x) :
    x - 1 / 2 < roundHalfAway x ∧ (roundHalfAway x : Rat) ≤ x + 1 / 2 := by
  rw [roundHalfAway_of_nonneg hx]
  have hup := Int.floor_le (x + 1 / 2)
  have hdown := Int.lt_floor_add_one (x + 1 / 2)
  exact ⟨by linarith, hup⟩

/-! ## Nearest, with ties away from zero -/

/-- `r` is a nearest integer of `x`, and at a tie the one farther from zero. -/
def NearestAwayFromZero (x : Rat) (r : Int) : Prop :=
  |(r : Rat) - x| ≤ 1 / 2 ∧ (|(r : Rat) - x| = 1 / 2 → |x| < |(r : Rat)|)

/-- Nearness and distance from zero do not see the sign. -/
theorem nearestAwayFromZero_neg_iff (x : Rat) (r : Int) :
    NearestAwayFromZero (-x) (-r) ↔ NearestAwayFromZero x r := by
  have hdist : |((-r : Int) : Rat) - -x| = |(r : Rat) - x| := by
    rw [Int.cast_neg, neg_sub_neg, abs_sub_comm]
  rw [NearestAwayFromZero, NearestAwayFromZero, hdist, Int.cast_neg, abs_neg, abs_neg]

/-- What lies in the half-open interval above `x - 1/2` can tie only at its upper end, away from zero. -/
theorem nearestAwayFromZero_of_bounds {x : Rat} {r : Int} (hx : 0 ≤ x) (hdown : x - 1 / 2 < r)
    (hup : (r : Rat) ≤ x + 1 / 2) : NearestAwayFromZero x r := by
  refine ⟨abs_le.2 ⟨by linarith, by linarith⟩, fun htie => ?_⟩
  obtain habove | hbelow := (abs_eq (by norm_num)).1 htie
  · calc |x| = x := abs_of_nonneg hx
      _ < r := by linarith
      _ ≤ |(r : Rat)| := le_abs_self _
  · linarith

theorem roundHalfAway_nearestAwayFromZero (x : Rat) : NearestAwayFromZero x (roundHalfAway x) := by
  have hnonneg {y : Rat} (hy : 0 ≤ y) : NearestAwayFromZero y (roundHalfAway y) :=
    nearestAwayFromZero_of_bounds hy (roundHalfAway_bounds hy).1 (roundHalfAway_bounds hy).2
  obtain hx | hx := lt_or_ge x 0
  · rw [roundHalfAway_of_neg hx, ← nearestAwayFromZero_neg_iff, neg_neg]
    exact hnonneg (neg_nonneg.2 hx.le)
  · exact hnonneg hx

/-- Settles O51: the interval around a non-negative value, carried below zero by symmetry. -/
theorem roundHalfAwayIsNearest : Obligations.RoundHalfAwayIsNearest :=
  roundHalfAway_nearestAwayFromZero

end Sys2Proof.Proofs.Scope
end

section
/-! PROOFS. What one event can do. The 31 events have eleven kinds of effect: a data byte, an opened message, a real-time byte, an
ignored byte, and the seven port events. `exec_effect` says which event has which, once; each proof about all events splits on
those eleven cases. Then what each effect writes, as an update of the state that leaves the rest alone. -/

namespace Sys2Proof.Proofs.Effects

open Sys2Proof.Machine

/-! ## The kinds of effect -/

/-- The byte `b`, received on `c`, is the event `i`, and opens a message of kind `k` (40_decoder.md R113). -/
abbrev OpensMessage (i : Instr) (c : Chan) (k : Kind) (b : Byte) : Prop :=
  decodeByte c b = i ∧ kindOf b = k ∧ (classOf b = .channelVoice ∨ classOf b = .systemCommon)

/-- The byte `b`, received on `c`, is the event `i`, and is a real-time byte (40_decoder.md R126). -/
abbrev IsRealTime (i : Instr) (c : Chan) (b : Byte) : Prop := decodeByte c b = i ∧ classOf b = .realTime

/-- The event `i` takes the state `s` to `t`, by the kind of its effect. -/
inductive Effect (s : State) : Instr → State → Prop
  | data (c : Chan) (d : Data7) : Effect s (.data c d) (dataEvent c d s)
  | status {i : Instr} {c : Chan} {k : Kind} {b : Byte} (h : OpensMessage i c k b) : Effect s i (openEvent c k b s)
  | realTime {i : Instr} {c : Chan} {b : Byte} (h : IsRealTime i c b) : Effect s i (realTimeEvent c b s)
  | undefined {i : Instr} {c : Chan} {b : Byte} (h : decodeByte c b = i) : Effect s i (ignoredEvent s)
  | reinit (c : Chan) : Effect s (.reinit c) (s.beginEvent.setDec c Decoder.reset)
  | glideTick : Effect s .glideTick s.beginEvent.tick
  | flushTick (ok : Bool) : Effect s (.flushTick ok) (s.beginEvent.flush ok)
  | cfgWrite (a : CfgAddr) (w : CfgWord) : Effect s (.cfgWrite a w) (s.beginEvent.cfgWriteOp a w)
  | cfgRead (a : CfgAddr) : Effect s (.cfgRead a) (s.beginEvent.setRdata (cfgReadWord s.cfg a))
  | time {d : Nat} (h : d ≠ 0) : Effect s (.time d) (s.beginEvent.advance d)
  | reset : Effect s .reset s.resetAll

/-! ## The bytes of the byte map (30_encoding.md R80..R86) -/

theorem decodeByte_data (c : Chan) (d : Data7) : decodeByte c (0#1 ++ d) = .data c d := by
  revert d; cases c <;> decide

theorem opensMessage_channelVoice (c : Chan) (n : Nibble) :
    OpensMessage (.noteOff c n) c .noteOff (statusByte 0x8#4 n) ∧
    OpensMessage (.noteOn c n) c .noteOn (statusByte 0x9#4 n) ∧
    OpensMessage (.polyAt c n) c .polyAt (statusByte 0xA#4 n) ∧
    OpensMessage (.cc c n) c .cc (statusByte 0xB#4 n) ∧
    OpensMessage (.pc c n) c .pc (statusByte 0xC#4 n) ∧
    OpensMessage (.chanAt c n) c .chanAt (statusByte 0xD#4 n) ∧
    OpensMessage (.pitchWheel c n) c .pitchWheel (statusByte 0xE#4 n) := by
  revert n; cases c <;> decide

theorem opensMessage_systemCommon (c : Chan) :
    OpensMessage (.sysexStart c) c .sysexStart 0xF0#8 ∧ OpensMessage (.quarterFrame c) c .quarterFrame 0xF1#8 ∧
    OpensMessage (.songPos c) c .songPos 0xF2#8 ∧ OpensMessage (.songSel c) c .songSel 0xF3#8 ∧
    OpensMessage (.measureEnd c) c .measureEnd 0xF9#8 := by
  cases c <;> decide

theorem isRealTime_bytes (c : Chan) :
    IsRealTime (.rtF6 c) c 0xF6#8 ∧ IsRealTime (.rtF7 c) c 0xF7#8 ∧ IsRealTime (.timingClock c) c 0xF8#8 ∧
    IsRealTime (.start c) c 0xFA#8 ∧ IsRealTime (.rtFB c) c 0xFB#8 ∧ IsRealTime (.rtFC c) c 0xFC#8 ∧
    IsRealTime (.rtFD c) c 0xFD#8 ∧ IsRealTime (.rtFE c) c 0xFE#8 ∧ IsRealTime (.rtFF c) c 0xFF#8 := by
  cases c <;> decide

theorem decodeByte_undefined (c : Chan) : decodeByte c 0xF4#8 = .undefF4 c ∧ decodeByte c 0xF5#8 = .undefF5 c := by
  cases c <;> decide

/-- The event's next state is the one of its kind of effect: the only place where all 31 events are told apart. -/
theorem exec_effect {i : Instr} {s t : State} (h : exec i s = .next t) : Effect s i t := by
  cases i with
  | data c d => cases h; exact .data c d
  | noteOff c n => obtain ⟨row, -⟩ := opensMessage_channelVoice c n; cases h; exact .status row
  | noteOn c n => obtain ⟨-, row, -⟩ := opensMessage_channelVoice c n; cases h; exact .status row
  | polyAt c n => obtain ⟨-, -, row, -⟩ := opensMessage_channelVoice c n; cases h; exact .status row
  | cc c n => obtain ⟨-, -, -, row, -⟩ := opensMessage_channelVoice c n; cases h; exact .status row
  | pc c n => obtain ⟨-, -, -, -, row, -⟩ := opensMessage_channelVoice c n; cases h; exact .status row
  | chanAt c n => obtain ⟨-, -, -, -, -, row, -⟩ := opensMessage_channelVoice c n; cases h; exact .status row
  | pitchWheel c n => obtain ⟨-, -, -, -, -, -, row⟩ := opensMessage_channelVoice c n; cases h; exact .status row
  | sysexStart c => obtain ⟨row, -⟩ := opensMessage_systemCommon c; cases h; exact .status row
  | quarterFrame c => obtain ⟨-, row, -⟩ := opensMessage_systemCommon c; cases h; exact .status row
  | songPos c => obtain ⟨-, -, row, -⟩ := opensMessage_systemCommon c; cases h; exact .status row
  | songSel c => obtain ⟨-, -, -, row, -⟩ := opensMessage_systemCommon c; cases h; exact .status row
  | measureEnd c => obtain ⟨-, -, -, -, row⟩ := opensMessage_systemCommon c; cases h; exact .status row
  | undefF4 c => obtain ⟨row, -⟩ := decodeByte_undefined c; cases h; exact .undefined row
  | undefF5 c => obtain ⟨-, row⟩ := decodeByte_undefined c; cases h; exact .undefined row
  | rtF6 c => obtain ⟨row, -⟩ := isRealTime_bytes c; cases h; exact .realTime row
  | rtF7 c => obtain ⟨-, row, -⟩ := isRealTime_bytes c; cases h; exact .realTime row
  | timingClock c => obtain ⟨-, -, row, -⟩ := isRealTime_bytes c; cases h; exact .realTime row
  | start c => obtain ⟨-, -, -, row, -⟩ := isRealTime_bytes c; cases h; exact .realTime row
  | rtFB c => obtain ⟨-, -, -, -, row, -⟩ := isRealTime_bytes c; cases h; exact .realTime row
  | rtFC c => obtain ⟨-, -, -, -, -, row, -⟩ := isRealTime_bytes c; cases h; exact .realTime row
  | rtFD c => obtain ⟨-, -, -, -, -, -, row, -⟩ := isRealTime_bytes c; cases h; exact .realTime row
  | rtFE c => obtain ⟨-, -, -, -, -, -, -, row, -⟩ := isRealTime_bytes c; cases h; exact .realTime row
  | rtFF c => obtain ⟨-, -, -, -, -, -, -, -, row⟩ := isRealTime_bytes c; cases h; exact .realTime row
  | reinit c => cases h; exact .reinit c
  | glideTick => cases h; exact .glideTick
  | flushTick ok => cases h; exact .flushTick ok
  | cfgWrite a w => cases h; exact .cfgWrite a w
  | cfgRead a => cases h; exact .cfgRead a
  | reset => cases h; exact .reset
  | time d =>
    by_cases hd : d = 0
    · rw [hd, exec_time_zero] at h; cases h
    · rw [exec_time d hd] at h; cases h; exact .time hd

/-! ## What each effect writes -/

theorem eq_other_of_ne {c c' : Chan} (h : c' ≠ c) : c' = c.other := by
  revert h; cases c <;> cases c' <;> decide

theorem setDec_dec_ne {c c' : Chan} (h : c' ≠ c) (s : State) (r : Decoder) : (s.setDec c r).dec c' = s.dec c' := by
  rw [eq_other_of_ne h, State.setDec_dec_other]

theorem dec_eq {s t : State} (h0 : t.dec0 = s.dec0) (h1 : t.dec1 = s.dec1) (c : Chan) : t.dec c = s.dec c := by
  cases c
  · exact h0
  · exact h1

@[simp] theorem ignoredEvent_eq (s : State) : ignoredEvent s = s.beginEvent := rfl

@[simp] theorem openEvent_eng (c : Chan) (k : Kind) (b : Byte) (s : State) : (openEvent c k b s).eng = s.eng := by
  simp [openEvent]
@[simp] theorem openEvent_now (c : Chan) (k : Kind) (b : Byte) (s : State) : (openEvent c k b s).now = s.now := by
  simp [openEvent]
@[simp] theorem openEvent_beatCount (c : Chan) (k : Kind) (b : Byte) (s : State) :
    (openEvent c k b s).beatCount = s.beatCount := by simp [openEvent]
@[simp] theorem openEvent_cfg (c : Chan) (k : Kind) (b : Byte) (s : State) : (openEvent c k b s).cfg = s.cfg := by
  simp [openEvent]
@[simp] theorem openEvent_out (c : Chan) (k : Kind) (b : Byte) (s : State) : (openEvent c k b s).out = Outputs.quiet := by
  simp [openEvent]
@[simp] theorem openEvent_params (c : Chan) (k : Kind) (b : Byte) (s : State) : (openEvent c k b s).params = s.params := by
  simp [openEvent]
@[simp] theorem openEvent_input (c : Chan) (k : Kind) (b : Byte) (s : State) : (openEvent c k b s).input = s.input := by
  simp [openEvent]

theorem openEvent_dec_ne {c c' : Chan} (h : c' ≠ c) (k : Kind) (b : Byte) (s : State) :
    (openEvent c k b s).dec c' = s.dec c' := by
  rw [openEvent, setDec_dec_ne h, State.beginEvent_dec]

/-- Routing never moves the note or records a sample: the note follows at the next tick (10_state.md R33, R39). -/
theorem deliver_eng_frame (s : State) (o : Option Msg) :
    (s.deliver o).eng.currentNote = s.eng.currentNote ∧ (s.deliver o).eng.lastWritten = s.eng.lastWritten := by
  cases o with
  | none => exact ⟨rfl, rfl⟩
  | some m =>
    rw [State.deliver]
    obtain h | ⟨-, -, -, h⟩ | ⟨-, -, -, h⟩ | ⟨-, -, h⟩ | ⟨-, -, h⟩ := (s.emit m).route_cases m <;> rw [h] <;> exact ⟨rfl, rfl⟩

/-- A message of another class than the real-time one does not count (41_router.md R160, R161). -/
theorem deliver_beatCount {s : State} {o : Option Msg} (h : ∀ m ∈ o, classOf m.status ≠ .realTime) :
    (s.deliver o).beatCount = s.beatCount := by
  cases o with
  | none => rfl
  | some m =>
    have hm : classOf m.status ≠ .realTime := h m rfl
    rw [State.deliver]
    obtain h | ⟨-, -, -, h⟩ | ⟨-, -, -, h⟩ | ⟨hb, -, -⟩ | ⟨hb, -, -⟩ := (s.emit m).route_cases m
    · rw [h]; rfl
    · rw [h]; rfl
    · rw [h]; rfl
    · rw [hb] at hm; exact absurd (by decide) hm
    · rw [hb] at hm; exact absurd (by decide) hm

/-- A real-time byte drives the message ports and may write `beat_count`, which only 0xF8 and 0xFA do (41_router.md R159..R162). -/
theorem realTimeEvent_writes {b : Byte} (hb : classOf b = .realTime) (c : Chan) (s : State) :
    ∃ n, realTimeEvent c b s =
        { s with out := { Outputs.quiet with msg := some ⟨c, b, 0#7, 0#7, 1#2⟩ }, beatCount := n } ∧
      (b ≠ 0xF8#8 → b ≠ 0xFA#8 → n = s.beatCount) := by
  rw [realTimeEvent, State.deliver]
  obtain h | ⟨hv, -⟩ | ⟨hv, -⟩ | ⟨h8, -, h⟩ | ⟨hA, -, h⟩ :=
    (s.beginEvent.emit ⟨c, b, 0#7, 0#7, 1#2⟩).route_cases ⟨c, b, 0#7, 0#7, 1#2⟩
  · exact ⟨s.beatCount, h, fun _ _ => rfl⟩
  · rw [hb] at hv; cases hv
  · rw [hb] at hv; cases hv
  · exact ⟨nextBeat s.beatCount, h, fun hne => absurd h8 hne⟩
  · exact ⟨0#5, h, fun _ hne => absurd hA hne⟩

theorem dataEvent_frame (c : Chan) (d : Data7) (s : State) :
    (dataEvent c d s).now = s.now ∧ (dataEvent c d s).cfg = s.cfg ∧ (dataEvent c d s).params = s.params ∧
      (dataEvent c d s).input = s.input := by
  obtain ⟨-, -, hnow, hcfg, hparams, hinput⟩ :=
    (s.beginEvent.setDec c ((s.dec c).dataByte c d).1).deliver_frame ((s.dec c).dataByte c d).2
  exact ⟨hnow.trans (by simp), hcfg.trans (by simp), hparams.trans (by simp), hinput.trans (by simp)⟩

theorem dataEvent_eng_frame (c : Chan) (d : Data7) (s : State) :
    (dataEvent c d s).eng.currentNote = s.eng.currentNote ∧ (dataEvent c d s).eng.lastWritten = s.eng.lastWritten := by
  obtain ⟨hnote, hlast⟩ :=
    deliver_eng_frame (s.beginEvent.setDec c ((s.dec c).dataByte c d).1) ((s.dec c).dataByte c d).2
  exact ⟨hnote.trans (by simp), hlast.trans (by simp)⟩

theorem dataEvent_dec_ne {c c' : Chan} (h : c' ≠ c) (d : Data7) (s : State) : (dataEvent c d s).dec c' = s.dec c' := by
  rw [dataEvent, State.deliver_dec, setDec_dec_ne h, State.beginEvent_dec]

theorem dataEvent_out (c : Chan) (d : Data7) (s : State) :
    (dataEvent c d s).out = { Outputs.quiet with msg := ((s.dec c).dataByte c d).2 } :=
  State.deliver_out _ _ (by simp)

/-- A flush drives the DAC ports and may write `last_written`; nothing else (42_engine.md R200). -/
theorem flush_writes (s : State) (ok : Bool) :
    ∃ o w, s.flush ok = { s with out := { s.out with dac := o }, eng := { s.eng with lastWritten := w } } := by
  obtain ⟨-, h⟩ | ⟨-, -, h⟩ | ⟨-, -, h⟩ := s.flush_cases ok
  · exact ⟨s.out.dac, s.eng.lastWritten, h⟩
  · exact ⟨some s.eng.outputValue, some s.eng.outputValue, h⟩
  · exact ⟨some s.eng.outputValue, s.eng.lastWritten, h⟩

/-- A configuration write drives `cfg_accepted` and may write the configuration; nothing else (43_config_time.md R220). -/
theorem cfgWriteOp_writes (s : State) (a : CfgAddr) (w : CfgWord) :
    ∃ r v, s.cfgWriteOp a w = { s with out := { s.out with cfgAccepted := some v }, cfg := r } := by
  obtain ⟨r, -, h⟩ | ⟨-, h⟩ := s.cfgWriteOp_cases a w
  · exact ⟨r, true, h⟩
  · exact ⟨s.cfg, false, h⟩

end Sys2Proof.Proofs.Effects
end

section
/-! PROOFS. Every step keeps every invariant (10_state.md R30, R50). First the decoder's invariants under the operations on one
decoder, then the engine's under `SET_TARGET` and `TICK`, then the whole invariant under each operation on the state. -/

namespace Sys2Proof.Proofs.Invariants

open Sys2Proof.Machine Sys2Proof.Proofs.Effects

/-! ## The decoder (10_state.md R30) -/

theorem decoderInv_reset : DecoderInv Decoder.reset := by decide

/-- What an opened message must bring for R30 to hold of it; its byte's class gives it. -/
theorem openMessage_facts {b : Byte} (h : classOf b = .channelVoice ∨ classOf b = .systemCommon) :
    kindOf b ≠ .idle ∧ 2 ≤ (kindOf b).len.toNat ∧
      ((kindOf b).isChannelVoice = true → b ≠ 0#8 ∧ (kindOf b).code = typeNibble b - 7#4) := by
  revert b; decide

theorem decoderInv_openMessage {i : Instr} {c : Chan} {k : Kind} {b : Byte} (h : OpensMessage i c k b) (r : Decoder) :
    DecoderInv (r.openMessage k b) := by
  obtain ⟨-, rfl, hclass⟩ := h
  obtain ⟨hkind, hlen, hvoice⟩ := openMessage_facts hclass
  have hexp : (kindOf b).len ≠ 0#2 := fun h0 => by rw [h0] at hlen; exact absurd hlen (by decide)
  refine ⟨⟨fun h0 => absurd h0 hexp, fun h0 => absurd h0 hkind⟩, fun h0 => absurd h0 hexp, fun _ => ⟨le_refl 1, hlen⟩, ?_,
    fun _ => rfl⟩
  cases hk : (kindOf b).isChannelVoice with
  | false => simp [Decoder.openMessage, hk]
  | true => obtain ⟨hb, hcode⟩ := hvoice hk; simp [Decoder.openMessage, hk, hb, hcode]

theorem decoderInv_store {r : Decoder} (hr : DecoderInv r) (d : Data7) (hopen : r.bytesExpected ≠ 0#2)
    (hmore : r.bytesReceived + 1#2 ≠ r.bytesExpected) : DecoderInv (r.store d) := by
  obtain ⟨hidle, -, hcount, hstatus, hlen⟩ := hr
  refine ⟨hidle, fun h0 => absurd h0 hopen, fun _ => ?_, hstatus, hlen⟩
  have := hcount hopen
  simp only [Decoder.store_bytesReceived, Decoder.store_bytesExpected]
  bv_omega

/-- Re-armed after a completed channel-voice message, or idle after a system common one (40_decoder.md R112). -/
theorem decoderInv_afterComplete_store {r : Decoder} (hr : DecoderInv r) (d : Data7) (hopen : r.bytesExpected ≠ 0#2) :
    DecoderInv (r.store d).afterComplete := by
  obtain ⟨hidle, -, hcount, ⟨hrun, hcode⟩, hlen⟩ := hr
  obtain ⟨-, h⟩ | ⟨hk, h⟩ := (r.store d).afterComplete_cases <;> rw [h]
  · have := hcount hopen
    exact ⟨hidle, fun h0 => absurd h0 hopen, fun _ => ⟨le_refl 1, by simp; omega⟩, ⟨hrun, hcode⟩, hlen⟩
  · have hnone : r.runningStatus = 0#8 := by
      by_contra h0
      rw [Decoder.store_messageKind, hrun.1 h0] at hk
      cases hk
    simp [DecoderInv, Kind.isChannelVoice, hnone]

theorem decoderInv_dataByte {r : Decoder} (hr : DecoderInv r) (c : Chan) (d : Data7) : DecoderInv (r.dataByte c d).1 := by
  obtain ⟨-, h⟩ | ⟨hopen, hmore, h⟩ | ⟨hopen, -, h⟩ := r.dataByte_cases c d <;> rw [h]
  · exact hr
  · exact decoderInv_store hr d hopen hmore
  · exact decoderInv_afterComplete_store hr d hopen

/-! ## The engine (10_state.md R50) -/

theorem noteInRange_initNote (p : Params) : NoteInRange p p.initNote := ⟨min_le_left _ _, le_max_left _ _⟩

/-- A MIDI note lies in 0..127. -/
theorem noteInRange_data (p : Params) (n : Data7) : NoteInRange p (n.toNat : Rat) := by
  have h0 : (0 : Rat) ≤ (n.toNat : Rat) := Nat.cast_nonneg _
  have h127 : (n.toNat : Rat) ≤ 127 := by exact_mod_cast Nat.le_of_lt_succ n.isLt
  exact ⟨(min_le_right _ _).trans h0, h127.trans (le_max_right _ _)⟩

/-- The range of item 6 is an interval: what lies between two of its notes is in it. -/
theorem noteInRange_of_between {p : Params} {a b x : Rat} (ha : NoteInRange p a) (hb : NoteInRange p b) (hx : Between a b x) :
    NoteInRange p x :=
  ⟨(le_min ha.1 hb.1).trans hx.1, hx.2.trans (max_le ha.2 hb.2)⟩

/-- A fraction of the way from `a` to `b` is between them. -/
theorem between_of_fraction {a b f : Rat} (h0 : 0 ≤ f) (h1 : f ≤ 1) : Between a b (a + f * (b - a)) := by
  obtain hab | hab := le_total a b
  · rw [Between, min_eq_left hab, max_eq_right hab]
    constructor <;> nlinarith
  · rw [Between, min_eq_right hab, max_eq_left hab]
    constructor <;> nlinarith

/-- A tick's note never leaves the glide (42_engine.md R191 item 2): past `end_tick` it is the target; inside, it is the fraction
of the way that the elapsed time is of the duration. -/
theorem tickNote_between {s : State} (h : EngineInv s) : Between s.eng.beginNote s.eng.endNote (tickNote s) := by
  obtain ⟨hticks, hrate, hzero, hbegun, -⟩ := h
  unfold tickNote
  split
  case isTrue => exact ⟨min_le_right _ _, le_max_right _ _⟩
  case isFalse hnow =>
    obtain hlt | heq := Nat.lt_or_eq_of_le hticks
    · have hspan : (0 : Rat) < (s.eng.endTick : Rat) - (s.eng.beginTick : Rat) := by
        rw [sub_pos]; exact_mod_cast hlt
      have helapsed : (0 : Rat) ≤ (s.now : Rat) - (s.eng.beginTick : Rat) := by
        rw [sub_nonneg]; exact_mod_cast hbegun
      have hleft : (s.now : Rat) - (s.eng.beginTick : Rat) ≤ (s.eng.endTick : Rat) - (s.eng.beginTick : Rat) := by
        have : (s.now : Rat) ≤ (s.eng.endTick : Rat) := by exact_mod_cast not_lt.1 hnow
        linarith
      rw [hrate hlt, ← mul_comm_div]
      exact between_of_fraction (div_nonneg helapsed hspan.le) ((div_le_one hspan).2 hleft)
    · obtain ⟨hr, -⟩ := hzero heq.symm
      rw [hr, mul_zero, add_zero]
      exact ⟨min_le_left _ _, le_max_left _ _⟩

theorem engineInv_tick {s : State} (h : EngineInv s) : EngineInv s.tick := by
  have hnote := tickNote_between h
  obtain ⟨hticks, hrate, hzero, hbegun, -, -, hbegin, hend⟩ := h
  exact ⟨hticks, hrate, hzero, hbegun, .inr hnote, noteInRange_of_between hbegin hend hnote, hbegin, hend⟩

/-- A new glide starts where the note is, or is over at once where its duration is 0 (42_engine.md R181, R184). -/
theorem engineInv_setTarget {s : State} (h : EngineInv s) (n : Data7) : EngineInv (s.setTarget n) := by
  obtain ⟨-, -, -, -, -, hcurrent, -, -⟩ := h
  have hn := noteInRange_data s.params n
  by_cases hd : targetDuration s n = 0
  · have hbegin : (s.setTarget n).eng.beginNote = n.toNat := by simp [hd]
    have hrate : (s.setTarget n).eng.rateFactor = 0 := by simp [hd]
    have hover : (s.setTarget n).eng.endTick = (s.setTarget n).eng.beginTick := by simp [hd]
    exact ⟨hover.ge, fun hlt => absurd hover hlt.ne', fun _ => ⟨hrate, hbegin⟩, le_refl _, .inl hover, hcurrent,
      hbegin ▸ hn, hn⟩
  · have hbegin : (s.setTarget n).eng.beginNote = s.eng.currentNote := by simp [hd]
    have hstart : Between (s.setTarget n).eng.beginNote (s.setTarget n).eng.endNote s.eng.currentNote :=
      hbegin ▸ ⟨min_le_left _ _, le_max_left _ _⟩
    exact ⟨Nat.le_add_right _ _, fun _ => by simp [hd], fun h0 => absurd h0 (by simp [hd]), le_refl _, .inr hstart, hcurrent,
      hbegin ▸ hcurrent, hn⟩

theorem engineInv_pwUpdate {s : State} (h : EngineInv s) (v : Nat) : EngineInv (s.pwUpdate v) := h

theorem engineInv_advance {s : State} (h : EngineInv s) (d : Nat) : EngineInv (s.advance d) := by
  obtain ⟨hticks, hrate, hzero, hbegun, hrest⟩ := h
  exact ⟨hticks, hrate, hzero, hbegun.trans (Nat.le_add_right _ _), hrest⟩

theorem engineInv_resetWith (p : Params) (input : List RawEvent) : EngineInv (State.resetWith p input) :=
  have hinit := noteInRange_initNote p
  ⟨le_refl _, fun h0 => absurd h0 (lt_irrefl _), fun _ => ⟨rfl, rfl⟩, le_refl _, .inl rfl, hinit, hinit, hinit⟩

/-! ## The configuration (10_state.md R42) -/

theorem legal_iff (r : CfgRegs) :
    r.legal = true ↔ r.filter0.toNat ≤ 16 ∧ r.filter1.toNat ≤ 16 ∧ r.clkSrc.toNat ≤ 2 ∧ r.pwRange.toNat ≤ 24 := by
  simp [CfgRegs.legal, and_assoc]

/-- A word within a register's bound is stored whole or reduced, and so within the bound. -/
theorem setWidth_toNat_le {w : CfgWord} {n k : Nat} (h : w.toNat ≤ n) : (w.setWidth k).toNat ≤ n := by
  rw [BitVec.toNat_setWidth]; exact (Nat.mod_le _ _).trans h

theorem cfgWritten_legal {r r' : CfgRegs} {a : CfgAddr} {w : CfgWord} (hr : r.legal = true)
    (h : cfgWritten r a w = some r') : r'.legal = true := by
  obtain ⟨h0, h1, h2, h3⟩ := (legal_iff r).1 hr
  rw [legal_iff]
  unfold cfgWritten at h
  split at h
  case h_1 => split at h <;> cases h; exact ⟨setWidth_toNat_le ‹_›, h1, h2, h3⟩
  case h_2 => split at h <;> cases h; exact ⟨h0, setWidth_toNat_le ‹_›, h2, h3⟩
  case h_3 => split at h <;> cases h; exact ⟨h0, h1, setWidth_toNat_le ‹_›, h3⟩
  case h_4 => split at h <;> cases h; exact ⟨h0, h1, h2, setWidth_toNat_le ‹_›⟩
  case h_5 => cases h; exact ⟨h0, h1, h2, h3⟩
  case h_6 => split at h <;> cases h; exact ⟨h0, h1, h2, h3⟩
  case h_7 => cases h

theorem cfgWriteOp_legal {s : State} (hs : s.cfg.legal = true) (a : CfgAddr) (w : CfgWord) :
    (s.cfgWriteOp a w).cfg.legal = true := by
  obtain ⟨r, hr, h⟩ | ⟨-, h⟩ := s.cfgWriteOp_cases a w <;> rw [h]
  · exact cfgWritten_legal hs hr
  · exact hs

/-! ## The whole invariant under each operation -/

theorem beatCount_zero_lt : (0#5).toNat < 24 := by decide

theorem nextBeat_lt (n : BitVec 5) : (nextBeat n).toNat < 24 := by
  simp only [nextBeat, BitVec.toNat_ofNat]; omega

theorem inv_dec {s : State} (h : Inv s) (c : Chan) : DecoderInv (s.dec c) := by
  obtain ⟨h0, h1, -⟩ := h
  cases c
  · exact h0
  · exact h1

/-- `Inv` does not read the ports or the events still to come. -/
theorem inv_of_out_input {s : State} (h : Inv s) (o : Outputs) (es : List RawEvent) : Inv { s with out := o, input := es } := h

theorem inv_setDec {s : State} (h : Inv s) (c : Chan) {r : Decoder} (hr : DecoderInv r) : Inv (s.setDec c r) := by
  obtain ⟨h0, h1, hrest⟩ := h
  cases c
  · exact ⟨hr, h1, hrest⟩
  · exact ⟨h0, hr, hrest⟩

theorem inv_deliver {s : State} (h : Inv s) (o : Option Msg) : Inv (s.deliver o) := by
  cases o with
  | none => exact h
  | some m =>
    obtain ⟨h0, h1, heng, hbeat, hcfg⟩ := inv_of_out_input h (s.emit m).out s.input
    rw [State.deliver]
    obtain hm | ⟨-, -, -, hm⟩ | ⟨-, -, -, hm⟩ | ⟨-, -, hm⟩ | ⟨-, -, hm⟩ := (s.emit m).route_cases m <;> rw [hm]
    · exact ⟨h0, h1, heng, hbeat, hcfg⟩
    · exact ⟨h0, h1, engineInv_setTarget heng m.data1, hbeat, hcfg⟩
    · exact ⟨h0, h1, engineInv_pwUpdate heng _, hbeat, hcfg⟩
    · exact ⟨h0, h1, heng, nextBeat_lt _, hcfg⟩
    · exact ⟨h0, h1, heng, beatCount_zero_lt, hcfg⟩

theorem inv_dataEvent {s : State} (h : Inv s) (c : Chan) (d : Data7) : Inv (dataEvent c d s) :=
  inv_deliver (inv_setDec (inv_of_out_input h _ _) c (decoderInv_dataByte (inv_dec h c) c d)) _

theorem inv_openEvent {s : State} (h : Inv s) {i : Instr} {c : Chan} {k : Kind} {b : Byte} (hb : OpensMessage i c k b) :
    Inv (openEvent c k b s) :=
  inv_setDec (inv_of_out_input h _ _) c (decoderInv_openMessage hb _)

theorem inv_tick {s : State} (h : Inv s) : Inv s.tick := by
  obtain ⟨h0, h1, heng, hrest⟩ := h
  exact ⟨h0, h1, engineInv_tick heng, hrest⟩

theorem inv_flush {s : State} (h : Inv s) (ok : Bool) : Inv (s.flush ok) := by
  obtain ⟨o, w, hf⟩ := flush_writes s ok
  rw [hf]; exact h

theorem inv_cfgWriteOp {s : State} (h : Inv s) (a : CfgAddr) (w : CfgWord) : Inv (s.cfgWriteOp a w) := by
  obtain ⟨h0, h1, heng, hbeat, hcfg, hreset⟩ := h
  have hlegal := cfgWriteOp_legal hcfg a w
  obtain ⟨r, v, hw⟩ := cfgWriteOp_writes s a w
  rw [hw] at hlegal ⊢
  exact ⟨h0, h1, heng, hbeat, hlegal, hreset⟩

theorem inv_advance {s : State} (h : Inv s) (d : Nat) : Inv (s.advance d) := by
  obtain ⟨h0, h1, heng, hrest⟩ := h
  exact ⟨h0, h1, engineInv_advance heng d, hrest⟩

/-- The reset state meets every invariant whatever the parameters are, but for the legal values of `CFG_RESET`
(70_reset_and_hazards.md R281). -/
theorem inv_resetWith {p : Params} (hp : p.cfgReset.legal = true) (input : List RawEvent) : Inv (State.resetWith p input) :=
  ⟨decoderInv_reset, decoderInv_reset, engineInv_resetWith p input, beatCount_zero_lt, hp, hp⟩

/-! ## Every event and every step -/

theorem exec_keeps_inv {i : Instr} {s t : State} (hs : Inv s) (h : exec i s = .next t) : Inv t := by
  have hbegin : Inv s.beginEvent := hs
  cases exec_effect h with
  | data c d => exact inv_dataEvent hs c d
  | status hb => exact inv_openEvent hs hb
  | realTime hb => exact inv_deliver hbegin _
  | undefined hb => exact hbegin
  | reinit c => exact inv_setDec hbegin c decoderInv_reset
  | glideTick => exact inv_tick hbegin
  | flushTick ok => exact inv_flush hbegin ok
  | cfgWrite a w => exact inv_cfgWriteOp hbegin a w
  | cfgRead a => exact inv_of_out_input hbegin _ _
  | time hd => exact inv_advance hbegin _
  | reset =>
    obtain ⟨-, -, -, -, -, hreset⟩ := hs
    exact inv_resetWith hreset s.input

/-- Settles O38: a step waits, or runs one event on the state without it, and every event keeps the invariant. -/
theorem stepKeepsInvariants : Obligations.StepKeepsInvariants := by
  intro s t hs h
  obtain ⟨-, hstep⟩ | ⟨e, rest, i, -, -, hstep⟩ | ⟨e, rest, why, -, -, hstep⟩ := step_cases s <;> rw [hstep] at h
  · cases h; exact hs
  · exact exec_keeps_inv (inv_of_out_input hs s.out rest) h
  · cases h

/-- Settles O32: each accepted word is within its register's bound. -/
theorem cfgWriteKeepsLegalValues : Obligations.CfgWriteKeepsLegalValues := by
  intro s t a w hs h
  cases h
  exact cfgWriteOp_legal (s := s.beginEvent) hs a w

end Sys2Proof.Proofs.Invariants
end

section
/-! PROOFS. Which events write which registers and drive which ports (10_state.md R20, R24, R33..R42). Each proof splits on the
eleven kinds of effect an event can have: the effect that owns the register is told apart, the frames of the others keep it. -/

namespace Sys2Proof.Proofs.Registers

open Sys2Proof.Machine Sys2Proof.Proofs.Effects Sys2Proof.Proofs.Invariants

/-- Settles O35: every value is the one `RESET` writes, for the chip's parameters. -/
theorem resetStateIsAfterReset : Obligations.ResetStateIsAfterReset :=
  ⟨rfl, rfl, rfl, rfl, rfl, rfl, rfl⟩

/-! ## `now` -/

/-- Settles O44: `TIME` adds to `now`, `RESET` clears it, and each other effect keeps it. -/
theorem nowMovesOnlyByTimeAndReset : Obligations.NowMovesOnlyByTimeAndReset := by
  intro i s t h
  cases exec_effect h with
  | time hd => exact .inr (.inl ⟨_, rfl, Nat.one_le_iff_ne_zero.2 hd, rfl⟩)
  | reset => exact .inl ⟨rfl, rfl⟩
  | data c d =>
    obtain ⟨hnow, -⟩ := dataEvent_frame c d s
    exact .inr (.inr hnow)
  | @realTime i c b hb =>
    obtain ⟨-, hclass⟩ := hb
    obtain ⟨n, ht, -⟩ := realTimeEvent_writes hclass c s
    simp [ht]
  | flushTick ok =>
    obtain ⟨o, w, ht⟩ := flush_writes s.beginEvent ok
    simp [ht]
  | cfgWrite a w =>
    obtain ⟨r, v, ht⟩ := cfgWriteOp_writes s.beginEvent a w
    simp [ht]
  | status _ | undefined _ | reinit _ | glideTick | cfgRead _ => simp

/-! ## The engine -/

/-- Settles O45: a data byte may start a glide or bend the output, a tick moves the note and the output, a flush records a sample,
and each other effect keeps the engine whole. -/
theorem engineRegistersKeepTheirWriters : Obligations.EngineRegistersKeepTheirWriters := by
  intro i s t h hreset
  cases exec_effect h with
  | data c d =>
    obtain ⟨-, -, hparams, hinput⟩ := dataEvent_frame c d s
    obtain ⟨hnote, hlast⟩ := dataEvent_eng_frame c d s
    exact ⟨fun _ => hnote, fun hdata => absurd rfl (hdata c d), fun hdata => absurd rfl (hdata c d), fun _ => hlast, hparams,
      hinput⟩
  | glideTick => simp
  | flushTick ok =>
    obtain ⟨o, w, ht⟩ := flush_writes s.beginEvent ok
    simp [ht]
  | @realTime i c b hb =>
    obtain ⟨-, hclass⟩ := hb
    obtain ⟨n, ht, -⟩ := realTimeEvent_writes hclass c s
    simp [ht]
  | cfgWrite a w =>
    obtain ⟨r, v, ht⟩ := cfgWriteOp_writes s.beginEvent a w
    simp [ht]
  | reset => exact absurd rfl hreset
  | status _ | undefined _ | reinit _ | cfgRead _ | time _ => simp

/-! ## `beat_count`, the configuration and the decoders -/

/-- By item 4 of R30 a held running status is the channel-voice byte its kind names, so a completed message is no real-time one. -/
theorem messageStatus_class {r : Decoder} (hkind : r.messageKind ≠ .idle)
    (hcode : r.messageKind.isChannelVoice = true → r.messageKind.code = typeNibble r.runningStatus - 7#4) :
    classOf r.messageStatus ≠ .realTime := by
  have hvoice : ∀ b : Byte, classOf b = .realTime → typeNibble b - 7#4 = 8#4 := by decide
  cases hk : r.messageKind <;> rw [hk] at hcode hkind <;> simp only [Decoder.messageStatus, hk]
  case idle => exact absurd rfl hkind
  case sysexStart | quarterFrame | songPos | songSel | measureEnd => decide
  case noteOff | noteOn | polyAt | cc | pc | chanAt | pitchWheel =>
    intro hreal
    rw [hvoice _ hreal] at hcode
    exact absurd (hcode rfl) (by decide)

theorem dataByte_message_class {r : Decoder} (hr : DecoderInv r) (c : Chan) (d : Data7) :
    ∀ m ∈ (r.dataByte c d).2, classOf m.status ≠ .realTime := by
  obtain ⟨hidle, -, -, ⟨hrun, hcode⟩, -⟩ := hr
  obtain ⟨-, h⟩ | ⟨-, -, h⟩ | ⟨hopen, -, h⟩ := r.dataByte_cases c d <;> rw [h]
  · rintro m ⟨⟩
  · rintro m ⟨⟩
  · rintro m ⟨⟩
    exact messageStatus_class (mt hidle.2 hopen) fun hvoice => hcode (hrun.2 hvoice)

theorem dataEvent_beatCount {s : State} {c : Chan} (hr : DecoderInv (s.dec c)) (d : Data7) :
    (dataEvent c d s).beatCount = s.beatCount := by
  rw [dataEvent, deliver_beatCount (dataByte_message_class hr c d)]
  simp

/-- Settles O46: under the invariant only the two real-time bytes count; a decoder is written by its own bytes and its `REINIT`. -/
theorem otherRegistersKeepTheirWriters : Obligations.OtherRegistersKeepTheirWriters := by
  intro i s t hs h hreset
  cases exec_effect h with
  | data c d =>
    obtain ⟨-, hcfg, -⟩ := dataEvent_frame c d s
    refine ⟨fun _ _ => dataEvent_beatCount (inv_dec hs c) d, fun _ => hcfg, fun c' hbyte _ => dataEvent_dec_ne ?_ d s⟩
    rintro rfl
    exact hbyte _ (decodeByte_data c' d).symm
  | @status i c k b hb =>
    obtain ⟨hdec, -⟩ := hb
    refine ⟨fun _ _ => openEvent_beatCount .., fun _ => openEvent_cfg .., fun c' hbyte _ => openEvent_dec_ne ?_ k b s⟩
    rintro rfl
    exact hbyte b hdec.symm
  | @realTime i c b hb =>
    obtain ⟨hdec, hclass⟩ := hb
    obtain ⟨n, ht, hn⟩ := realTimeEvent_writes hclass c s
    obtain ⟨-, -, hclock, hstart, -⟩ := isRealTime_bytes c
    rw [ht]
    refine ⟨fun hne8 hneA => hn ?_ ?_, fun _ => rfl, fun c' _ _ => dec_eq rfl rfl c'⟩
    · rintro rfl; exact hne8 c (hdec.symm.trans hclock.1)
    · rintro rfl; exact hneA c (hdec.symm.trans hstart.1)
  | reinit c =>
    refine ⟨by simp, by simp, fun c' _ hne => ?_⟩
    have hc : c' ≠ c := fun hc => hne (by rw [hc])
    rw [setDec_dec_ne hc, State.beginEvent_dec]
  | flushTick ok =>
    obtain ⟨o, w, ht⟩ := flush_writes s.beginEvent ok
    rw [ht]
    exact ⟨fun _ _ => rfl, fun _ => rfl, fun c' _ _ => dec_eq rfl rfl c'⟩
  | cfgWrite a w =>
    obtain ⟨r, v, ht⟩ := cfgWriteOp_writes s.beginEvent a w
    rw [ht]
    exact ⟨fun _ _ => rfl, fun hcfg => absurd rfl (hcfg a w), fun c' _ _ => dec_eq rfl rfl c'⟩
  | reset => exact absurd rfl hreset
  | undefined _ | glideTick | cfgRead _ | time _ => simp

/-! ## The ports of one event -/

/-- Settles O47: every event starts with no port driven (10_state.md R20), and each effect drives its own. -/
theorem outputPortsKeepTheirDrivers : Obligations.OutputPortsKeepTheirDrivers := by
  intro i s t h
  cases exec_effect h with
  | data c d =>
    rw [dataEvent_out]
    exact ⟨fun hbyte => absurd (decodeByte_data c d).symm (hbyte c _), fun _ => rfl, fun _ _ => rfl, fun _ => rfl⟩
  | @realTime i c b hb =>
    obtain ⟨hdec, hclass⟩ := hb
    obtain ⟨n, ht, -⟩ := realTimeEvent_writes hclass c s
    rw [ht]
    exact ⟨fun hbyte => absurd hdec.symm (hbyte c b), fun _ => rfl, fun _ _ => rfl, fun _ => rfl⟩
  | flushTick ok =>
    obtain ⟨o, w, ht⟩ := flush_writes s.beginEvent ok
    rw [ht]
    exact ⟨fun _ => rfl, fun hflush => absurd rfl (hflush ok), fun _ _ => rfl, fun _ => rfl⟩
  | cfgWrite a w =>
    obtain ⟨r, v, ht⟩ := cfgWriteOp_writes s.beginEvent a w
    rw [ht]
    exact ⟨fun _ => rfl, fun _ => rfl, fun hwrite _ => absurd rfl (hwrite a w), fun _ => rfl⟩
  | cfgRead a => exact ⟨fun _ => rfl, fun _ => rfl, fun _ _ => rfl, fun hread => absurd rfl (hread a)⟩
  | reset => exact ⟨fun _ => rfl, fun _ => rfl, fun _ hreset => absurd rfl hreset, fun _ => rfl⟩
  | status _ | undefined _ | reinit _ | glideTick | time _ => simp [Outputs.quiet]

end Sys2Proof.Proofs.Registers
end

section
/-! PROOFS. The glide-rate table of 20_memory.md: its index is the clamped glide amount, its read stays inside the table, and its
entries never rise from one index to a later one. -/

namespace Sys2Proof.Proofs.Memory

open Sys2Proof.Machine

/-! ## The index -/

/-- The clamp leaves 0..127, so the index holds it whole (10_state.md R43). -/
theorem glideIndex_val (amt : BitVec 16) : ((glideIndex amt).val : Int) = clampInt 0 127 amt.toInt := by
  have hnonneg : 0 ≤ clampInt 0 127 amt.toInt := by simp only [clampInt]; omega
  exact Int.toNat_of_nonneg hnonneg

/-! ## The entries -/

/-- The table's check compares neighbours, which is the library's chain of `≥`. -/
theorem nonIncreasing_iff_isChain (l : List Nat) : nonIncreasing l = true ↔ l.IsChain (· ≥ ·) := by
  induction l using nonIncreasing.induct with
  | case1 => simp [nonIncreasing]
  | case2 a => simp [nonIncreasing]
  | case3 a b rest ih => simp [nonIncreasing, ih]

/-- `RateROM(i)` is an entry of the table: 128 entries leave no index of 0..127 without one (20_memory.md R62). -/
theorem getElem?_rateROM (t : RateTable) (i : Fin 128) : t.entries[i.val]? = some (rateROM t i) :=
  List.getElem?_eq_getElem _

/-- A greater glide amount never reads a faster rate: `≥` between neighbours carries over to any two entries
(00_scope.md R8). -/
theorem rateROM_antitone (t : RateTable) : Antitone (rateROM t) := by
  obtain ⟨-, -, -, -, hdown⟩ := rateTable_facts t
  have hsorted : t.entries.SortedGE := ((nonIncreasing_iff_isChain _).1 hdown).sortedGE
  exact fun _ _ hij => hsorted.getElem_ge_getElem_of_le hij

/-- Settles O58: the clamp gives the index, the legality of the table gives the rest. -/
theorem rateTableReadInRange : Obligations.RateTableReadInRange := by
  intro t amt i j
  obtain ⟨hpos, hle⟩ := rateROM_range t i
  exact ⟨glideIndex_val amt, getElem?_rateROM t i, hpos, hle, fun hij => rateROM_antitone t hij⟩

end Sys2Proof.Proofs.Memory
end

section
/-! PROOFS. The encoding of 30_encoding.md. `Reading e i` lists what R93 gives a meaning to, one case per event code; the decoder
reads exactly those raw events and the encoder writes exactly those, so each undoes the other. Then the byte classes of R87. -/

namespace Sys2Proof.Proofs.Encoding

open Sys2Proof.Machine Sys2Proof.Proofs.Effects

/-! ## Bytes (30_encoding.md R80..R86) -/

theorem extractLsb'_statusByte_high (t n : Nibble) : (statusByte t n).extractLsb' 4 4 = t :=
  BitVec.extractLsb'_append_eq_left

theorem extractLsb'_statusByte_low (t n : Nibble) : (statusByte t n).extractLsb' 0 4 = n :=
  BitVec.extractLsb'_append_eq_right

/-- The byte map loses no bit of a byte: it is a table, checked at each of its 256 rows. -/
theorem encode_decodeByte (c : Chan) (b : Byte) : encode (decodeByte c b) = byteEvent c b := by
  revert b; cases c <;> decide

/-! ## Operands (30_encoding.md R93) -/

theorem decodeChan_eq_some_iff {n : Nat} {c : Chan} : decodeChan n = some c ↔ n = c.index := by
  match n with
  | 0 | 1 | n + 2 => cases c <;> simp [decodeChan, Chan.index]

theorem decodeOk_eq_some_iff {v : Nat} {ok : Bool} : decodeOk v = some ok ↔ v = ok.toNat := by
  match v with
  | 0 | 1 | v + 2 => cases ok <;> simp [decodeOk]

@[simp] theorem decodeChan_index (c : Chan) : decodeChan c.index = some c := decodeChan_eq_some_iff.2 rfl

@[simp] theorem decodeOk_toNat (ok : Bool) : decodeOk ok.toNat = some ok := decodeOk_eq_some_iff.2 rfl

theorem exists_toNat_eq {w n : Nat} (h : n < 2 ^ w) : ∃ x : BitVec w, x.toNat = n :=
  ⟨BitVec.ofNat w n, BitVec.toNat_ofNat n w ▸ Nat.mod_eq_of_lt h⟩

/-! ## What R93 gives a meaning to -/

/-- The raw event `e` stands for the event `i` by 30_encoding.md R93, every operand in its range. -/
inductive Reading : RawEvent → Instr → Prop
  | byte {c : Chan} {b : Byte} {i : Instr} (h : decodeByte c b = i) : Reading (byteEvent c b) i
  | reinit (c : Chan) : Reading [1, c.index] (.reinit c)
  | glideTick : Reading [2] .glideTick
  | flushTick (ok : Bool) : Reading [3, ok.toNat] (.flushTick ok)
  | cfgWrite (a : CfgAddr) (w : CfgWord) : Reading [4, a.toNat, w.toNat] (.cfgWrite a w)
  | cfgRead (a : CfgAddr) : Reading [5, a.toNat] (.cfgRead a)
  | time (d : Nat) : Reading [6, d] (.time d)
  | reset : Reading [7] .reset

/-! ## The decoder -/

theorem reading_of_decodeByteEvent {n m : Nat} {i : Instr} (h : decodeByteEvent n m = .ok i) : Reading [0, n, m] i := by
  unfold decodeByteEvent at h
  split at h
  next => cases h
  next c hc =>
    split_ifs at h with hm
    obtain rfl := decodeChan_eq_some_iff.1 hc
    obtain ⟨b, rfl⟩ := exists_toNat_eq (w := 8) hm
    exact .byte (by simpa using h)

theorem reading_of_decodeReinit {n : Nat} {i : Instr} (h : decodeReinit n = .ok i) : Reading [1, n] i := by
  unfold decodeReinit at h
  split at h
  next => cases h
  next c hc => cases h; obtain rfl := decodeChan_eq_some_iff.1 hc; exact .reinit c

theorem reading_of_decodeFlush {v : Nat} {i : Instr} (h : decodeFlush v = .ok i) : Reading [3, v] i := by
  unfold decodeFlush at h
  split at h
  next => cases h
  next ok hok => cases h; obtain rfl := decodeOk_eq_some_iff.1 hok; exact .flushTick ok

theorem reading_of_decodeCfgWrite {n m : Nat} {i : Instr} (h : decodeCfgWrite n m = .ok i) : Reading [4, n, m] i := by
  unfold decodeCfgWrite at h
  split_ifs at h with hn hm
  obtain ⟨a, rfl⟩ := exists_toNat_eq (w := 3) hn
  obtain ⟨w, rfl⟩ := exists_toNat_eq (w := 16) hm
  cases h
  simpa using Reading.cfgWrite a w

theorem reading_of_decodeCfgRead {n : Nat} {i : Instr} (h : decodeCfgRead n = .ok i) : Reading [5, n] i := by
  unfold decodeCfgRead at h
  split_ifs at h with hn
  obtain ⟨a, rfl⟩ := exists_toNat_eq (w := 3) hn
  cases h
  simpa using Reading.cfgRead a

theorem reading_of_decodeEvent {e : RawEvent} {i : Instr} (h : decodeEvent e = .ok i) : Reading e i := by
  unfold decodeEvent at h
  split at h
  next c b => exact reading_of_decodeByteEvent h
  next c => exact reading_of_decodeReinit h
  next => cases h; exact .glideTick
  next v => exact reading_of_decodeFlush h
  next a w => exact reading_of_decodeCfgWrite h
  next a => exact reading_of_decodeCfgRead h
  next d => cases h; exact .time d
  next => cases h; exact .reset
  next => cases h
  next => split_ifs at h

theorem decodeEvent_of_reading {e : RawEvent} {i : Instr} (h : Reading e i) : decodeEvent e = .ok i := by
  cases h with
  | @byte c b _ h => simp [byteEvent, decodeEvent, decodeByteEvent, b.isLt, h]
  | reinit c => simp [decodeEvent, decodeReinit]
  | flushTick ok => simp [decodeEvent, decodeFlush]
  | cfgWrite a w => simp [decodeEvent, decodeCfgWrite, a.isLt, w.isLt]
  | cfgRead a => simp [decodeEvent, decodeCfgRead, a.isLt]
  | glideTick | time _ | reset => rfl

/-! ## The encoder -/

/-- The only place where all 31 events are told apart: what `encode` writes is a reading of R93. -/
theorem reading_encode (i : Instr) : Reading (encode i) i := by
  cases i with
  | data c d => exact .byte (decodeByte_data c d)
  | noteOff c n | noteOn c n | polyAt c n | cc c n | pc c n | chanAt c n | pitchWheel c n =>
    exact .byte (by simp only [decodeByte, extractLsb'_statusByte_high, extractLsb'_statusByte_low]; rfl)
  | sysexStart c | quarterFrame c | songPos c | songSel c | measureEnd c | undefF4 c | undefF5 c => exact .byte rfl
  | rtF6 c | rtF7 c | timingClock c | start c | rtFB c | rtFC c | rtFD c | rtFE c | rtFF c => exact .byte rfl
  | reinit c => exact .reinit c
  | glideTick => exact .glideTick
  | flushTick ok => exact .flushTick ok
  | cfgWrite a w => exact .cfgWrite a w
  | cfgRead a => exact .cfgRead a
  | time d => exact .time d
  | reset => exact .reset

theorem encode_of_reading {e : RawEvent} {i : Instr} (h : Reading e i) : encode i = e := by
  cases h with
  | byte h => rw [← h, encode_decodeByte]
  | _ => rfl

theorem decodeEvent_encode (i : Instr) : decodeEvent (encode i) = .ok i := decodeEvent_of_reading (reading_encode i)

/-- Settles O5: what the encoder writes is a reading, and the decoder reads it (`TIME(0)` too, which only `exec` refuses). -/
theorem decodeEncodeRoundTrip : Obligations.DecodeEncodeRoundTrip := fun i _ => decodeEvent_encode i

/-- Settles O6: what the decoder reads is a reading, and the encoder writes it back. -/
theorem encodeOfDecodedEvent : Obligations.EncodeOfDecodedEvent :=
  fun _ _ h => encode_of_reading (reading_of_decodeEvent h)

/-! ## Steps and written-out events -/

/-- Settles O1: the event is taken from the front, decoded, and run. -/
theorem stepRunsDecodedEvent : Obligations.StepRunsDecodedEvent := by
  intro s e rest i hinput hdecode _
  simp only [step, State.takeEvent_cons s e rest hinput, hdecode]

/-- Settles O4: each list of numbers is what `encode` writes for its event, so the round trip reads it; the last two are outside
R93's codes and channels. -/
theorem writtenOutEventsDecode : Obligations.WrittenOutEventsDecode :=
  ⟨decodeEvent_encode (.data .ch0 0x3C#7), decodeEvent_encode (.noteOff .ch1 5#4), decodeEvent_encode (.pitchWheel .ch0 0#4),
    decodeEvent_encode (.measureEnd .ch0), decodeEvent_encode (.undefF4 .ch1), decodeEvent_encode (.start .ch1),
    decodeEvent_encode (.reinit .ch1), decodeEvent_encode (.flushTick false), decodeEvent_encode (.cfgWrite 3#3 12#16),
    decodeEvent_encode (.time 60000), decodeEvent_encode .reset, rfl, rfl⟩

/-! ## The opcode table -/

/-- Settles O7, by the table's lemma for each constructor. -/
theorem everyEventMatchesItsTableRow : Obligations.EveryEventMatchesItsTableRow := by
  intro i
  cases i with
  | data c d => exact Laws.MatchesTableRow.data c d
  | noteOff c n => exact Laws.MatchesTableRow.noteOff c n
  | noteOn c n => exact Laws.MatchesTableRow.noteOn c n
  | polyAt c n => exact Laws.MatchesTableRow.polyAt c n
  | cc c n => exact Laws.MatchesTableRow.cc c n
  | pc c n => exact Laws.MatchesTableRow.pc c n
  | chanAt c n => exact Laws.MatchesTableRow.chanAt c n
  | pitchWheel c n => exact Laws.MatchesTableRow.pitchWheel c n
  | sysexStart c => exact Laws.MatchesTableRow.sysexStart c
  | quarterFrame c => exact Laws.MatchesTableRow.quarterFrame c
  | songPos c => exact Laws.MatchesTableRow.songPos c
  | songSel c => exact Laws.MatchesTableRow.songSel c
  | measureEnd c => exact Laws.MatchesTableRow.measureEnd c
  | undefF4 c => exact Laws.MatchesTableRow.undefF4 c
  | undefF5 c => exact Laws.MatchesTableRow.undefF5 c
  | rtF6 c => exact Laws.MatchesTableRow.rtF6 c
  | rtF7 c => exact Laws.MatchesTableRow.rtF7 c
  | timingClock c => exact Laws.MatchesTableRow.timingClock c
  | start c => exact Laws.MatchesTableRow.start c
  | rtFB c => exact Laws.MatchesTableRow.rtFB c
  | rtFC c => exact Laws.MatchesTableRow.rtFC c
  | rtFD c => exact Laws.MatchesTableRow.rtFD c
  | rtFE c => exact Laws.MatchesTableRow.rtFE c
  | rtFF c => exact Laws.MatchesTableRow.rtFF c
  | reinit c => exact Laws.MatchesTableRow.reinit c
  | glideTick => exact Laws.MatchesTableRow.glideTick
  | flushTick ok => exact Laws.MatchesTableRow.flushTick ok
  | cfgWrite a w => exact Laws.MatchesTableRow.cfgWrite a w
  | cfgRead a => exact Laws.MatchesTableRow.cfgRead a
  | time d => exact Laws.MatchesTableRow.time d
  | reset => exact Laws.MatchesTableRow.reset

/-! ## The byte classes (30_encoding.md R87)

R87 gives the classes and kinds as a table over the 256 bytes; each of its columns is checked at every byte. -/

theorem classOf_eq_data_iff (b : Byte) : classOf b = .data ↔ b.toNat < 0x80 := by
  revert b; decide

theorem classOf_eq_channelVoice_iff (b : Byte) : classOf b = .channelVoice ↔ 0x80 ≤ b.toNat ∧ b.toNat ≤ 0xEF := by
  revert b; decide

theorem classOf_eq_systemCommon_iff (b : Byte) :
    classOf b = .systemCommon ↔ b ∈ [0xF0#8, 0xF1#8, 0xF2#8, 0xF3#8, 0xF9#8] := by
  revert b; decide

theorem classOf_eq_realTime_iff (b : Byte) :
    classOf b = .realTime ↔ b ∈ [0xF6#8, 0xF7#8, 0xF8#8, 0xFA#8, 0xFB#8, 0xFC#8, 0xFD#8, 0xFE#8, 0xFF#8] := by
  revert b; decide

theorem classOf_eq_undefined_iff (b : Byte) : classOf b = .undefined ↔ b ∈ [0xF4#8, 0xF5#8] := by
  revert b; decide

/-- The kinds 1..7 are the type nibbles 8..14 (10_state.md R26). -/
theorem kindOf_code_channelVoice (b : Byte) (h : classOf b = .channelVoice) : (kindOf b).code.toNat = b.toNat / 16 - 7 := by
  revert b; decide

theorem kind_len_iff (k : Kind) :
    (k.len = 3#2 ↔ k ∈ [.noteOff, .noteOn, .polyAt, .cc, .pitchWheel, .sysexStart, .songPos]) ∧
    (k.len = 2#2 ↔ k ∈ [.pc, .chanAt, .quarterFrame, .songSel, .measureEnd]) ∧ (k.len = 0#2 ↔ k = .idle) := by
  cases k <;> decide

/-- Settles O8: the five classes and the channel-voice kinds over every byte, the system common kinds, and every kind's length. -/
theorem classificationOfEveryByte : Obligations.ClassificationOfEveryByte :=
  ⟨fun b => ⟨classOf_eq_data_iff b, classOf_eq_channelVoice_iff b, classOf_eq_systemCommon_iff b, classOf_eq_realTime_iff b,
    classOf_eq_undefined_iff b, kindOf_code_channelVoice b⟩, rfl, rfl, rfl, rfl, rfl, kind_len_iff⟩

end Sys2Proof.Proofs.Encoding
end

section
/-! PROOFS. The event of one byte (40_decoder.md R110..R138). First `FEED` by the class of the byte, then the status bytes, the
real-time bytes, the data bytes in their three cases, and what a byte does to its decoder. -/

namespace Sys2Proof.Proofs.Decoding

open Sys2Proof.Machine Sys2Proof.Proofs.Effects Sys2Proof.Proofs.Encoding

/-! ## `FEED`, class by class (40_decoder.md R110) -/

theorem classOf_dataByte (d : Data7) : classOf (0#1 ++ d) = .data := by revert d; decide

theorem dataByte_extractLsb' (d : Data7) : (0#1 ++ d : Byte).extractLsb' 0 7 = d := by revert d; decide

theorem eq_dataByte_of_class {b : Byte} (hb : classOf b = .data) : b = 0#1 ++ b.extractLsb' 0 7 := by revert b; decide

/-- A channel-voice byte is one of the seven type nibbles over a MIDI channel nibble (30_encoding.md R83). -/
theorem eq_statusByte_of_class {b : Byte} (hb : classOf b = .channelVoice) :
    ∃ n : Nibble, b = statusByte 0x8#4 n ∨ b = statusByte 0x9#4 n ∨ b = statusByte 0xA#4 n ∨ b = statusByte 0xB#4 n ∨
      b = statusByte 0xC#4 n ∨ b = statusByte 0xD#4 n ∨ b = statusByte 0xE#4 n :=
  ⟨channelNibble b, by revert b; decide⟩

theorem exec_decodeByte_of_opensMessage {i : Instr} {c : Chan} {k : Kind} {b : Byte} {s : State} (hb : OpensMessage i c k b)
    (h : exec i s = .next (openEvent c k b s)) : exec (decodeByte c b) s = .next (openEvent c (kindOf b) b s) := by
  obtain ⟨rfl, rfl, -⟩ := hb
  exact h

theorem exec_decodeByte_of_isRealTime {i : Instr} {c : Chan} {b : Byte} {s : State} (hb : IsRealTime i c b)
    (h : exec i s = .next (realTimeEvent c b s)) : exec (decodeByte c b) s = .next (realTimeEvent c b s) := by
  obtain ⟨rfl, -⟩ := hb
  exact h

theorem exec_decodeByte_data {b : Byte} (hb : classOf b = .data) (c : Chan) (s : State) :
    exec (decodeByte c b) s = .next (dataEvent c (b.extractLsb' 0 7) s) := by
  conv_lhs => rw [eq_dataByte_of_class hb, decodeByte_data]
  exact exec_data _ _ _

theorem exec_decodeByte_channelVoice {b : Byte} (hb : classOf b = .channelVoice) (c : Chan) (s : State) :
    exec (decodeByte c b) s = .next (openEvent c (kindOf b) b s) := by
  obtain ⟨n, hbyte⟩ := eq_statusByte_of_class hb
  obtain ⟨hoff, hon, hpoly, hcc, hpc, hat, hwheel⟩ := opensMessage_channelVoice c n
  obtain rfl | rfl | rfl | rfl | rfl | rfl | rfl := hbyte
  · exact exec_decodeByte_of_opensMessage hoff rfl
  · exact exec_decodeByte_of_opensMessage hon rfl
  · exact exec_decodeByte_of_opensMessage hpoly rfl
  · exact exec_decodeByte_of_opensMessage hcc rfl
  · exact exec_decodeByte_of_opensMessage hpc rfl
  · exact exec_decodeByte_of_opensMessage hat rfl
  · exact exec_decodeByte_of_opensMessage hwheel rfl

theorem exec_decodeByte_systemCommon {b : Byte} (hb : classOf b = .systemCommon) (c : Chan) (s : State) :
    exec (decodeByte c b) s = .next (openEvent c (kindOf b) b s) := by
  obtain ⟨hsysex, hquarter, hpos, hsel, hmeasure⟩ := opensMessage_systemCommon c
  have hbyte := (classOf_eq_systemCommon_iff b).1 hb
  simp only [List.mem_cons, List.not_mem_nil, or_false] at hbyte
  obtain rfl | rfl | rfl | rfl | rfl := hbyte
  · exact exec_decodeByte_of_opensMessage hsysex rfl
  · exact exec_decodeByte_of_opensMessage hquarter rfl
  · exact exec_decodeByte_of_opensMessage hpos rfl
  · exact exec_decodeByte_of_opensMessage hsel rfl
  · exact exec_decodeByte_of_opensMessage hmeasure rfl

theorem exec_decodeByte_realTime {b : Byte} (hb : classOf b = .realTime) (c : Chan) (s : State) :
    exec (decodeByte c b) s = .next (realTimeEvent c b s) := by
  obtain ⟨hF6, hF7, hF8, hFA, hFB, hFC, hFD, hFE, hFF⟩ := isRealTime_bytes c
  have hbyte := (classOf_eq_realTime_iff b).1 hb
  simp only [List.mem_cons, List.not_mem_nil, or_false] at hbyte
  obtain rfl | rfl | rfl | rfl | rfl | rfl | rfl | rfl | rfl := hbyte
  · exact exec_decodeByte_of_isRealTime hF6 rfl
  · exact exec_decodeByte_of_isRealTime hF7 rfl
  · exact exec_decodeByte_of_isRealTime hF8 rfl
  · exact exec_decodeByte_of_isRealTime hFA rfl
  · exact exec_decodeByte_of_isRealTime hFB rfl
  · exact exec_decodeByte_of_isRealTime hFC rfl
  · exact exec_decodeByte_of_isRealTime hFD rfl
  · exact exec_decodeByte_of_isRealTime hFE rfl
  · exact exec_decodeByte_of_isRealTime hFF rfl

theorem exec_decodeByte_undefined {b : Byte} (hb : classOf b = .undefined) (c : Chan) (s : State) :
    exec (decodeByte c b) s = .next (ignoredEvent s) := by
  obtain ⟨hF4, hF5⟩ := decodeByte_undefined c
  have hbyte := (classOf_eq_undefined_iff b).1 hb
  simp only [List.mem_cons, List.not_mem_nil, or_false] at hbyte
  obtain rfl | rfl := hbyte
  · rw [hF4]; rfl
  · rw [hF5]; rfl

theorem feedByClass_data {b : Byte} (hb : classOf b = .data) (c : Chan) (s : State) :
    feedByClass c b s = dataEvent c (b.extractLsb' 0 7) s := by simp only [feedByClass, hb]

theorem feedByClass_dataByte (c : Chan) (d : Data7) (s : State) : feedByClass c (0#1 ++ d) s = dataEvent c d s := by
  rw [feedByClass_data (classOf_dataByte d), dataByte_extractLsb']

theorem feedByClass_status {b : Byte} (hb : classOf b = .channelVoice ∨ classOf b = .systemCommon) (c : Chan) (s : State) :
    feedByClass c b s = openEvent c (kindOf b) b s := by
  obtain hb | hb := hb <;> simp only [feedByClass, hb]

theorem feedByClass_realTime {b : Byte} (hb : classOf b = .realTime) (c : Chan) (s : State) :
    feedByClass c b s = realTimeEvent c b s := by simp only [feedByClass, hb]

theorem feedByClass_undefined {b : Byte} (hb : classOf b = .undefined) (c : Chan) (s : State) :
    feedByClass c b s = s.beginEvent := by simp only [feedByClass, hb, ignoredEvent_eq]

/-- Settles O9: the byte's class has one procedure, and each event of the class runs it. -/
theorem everyByteRunsItsClassProcedure : Obligations.EveryByteRunsItsClassProcedure := by
  intro c b s
  cases hb : classOf b with
  | data => rw [feedByClass_data hb, exec_decodeByte_data hb]
  | channelVoice => rw [feedByClass_status (.inl hb), exec_decodeByte_channelVoice hb]
  | systemCommon => rw [feedByClass_status (.inr hb), exec_decodeByte_systemCommon hb]
  | realTime => rw [feedByClass_realTime hb, exec_decodeByte_realTime hb]
  | undefined => rw [feedByClass_undefined hb, exec_decodeByte_undefined hb, ignoredEvent_eq]

/-! ## Status bytes (40_decoder.md R113..R125) -/

/-- A channel-voice status is latched as running status (R113). -/
theorem openEvent_channelVoice {k : Kind} (hk : k.isChannelVoice = true) (c : Chan) (b : Byte) (s : State) :
    openEvent c k b s = ({ s with out := Outputs.quiet } : State).setDec c
      { s.dec c with messageKind := k, bytesExpected := k.len, bytesReceived := 1#2, runningStatus := b } := by
  rw [openEvent, Decoder.openMessage, if_pos hk]; rfl

/-- A system common status cancels running status (R113). -/
theorem openEvent_systemCommon {k : Kind} (hk : k.isChannelVoice = false) (c : Chan) (b : Byte) (s : State) :
    openEvent c k b s = ({ s with out := Outputs.quiet } : State).setDec c
      { s.dec c with messageKind := k, bytesExpected := k.len, bytesReceived := 1#2, runningStatus := 0#8 } := by
  rw [openEvent, Decoder.openMessage, if_neg (by rw [hk]; exact Bool.false_ne_true)]; rfl

theorem kindOf_isChannelVoice (b : Byte) : (kindOf b).isChannelVoice = decide (classOf b = .channelVoice) := by
  revert b; decide

/-- Settles O10: `FEED` of a status byte opens its message, and its class says what becomes of running status. -/
theorem statusByteOpensMessage : Obligations.StatusByteOpensMessage := by
  intro c b s hb
  rw [everyByteRunsItsClassProcedure, feedByClass_status hb]
  have hvoice := kindOf_isChannelVoice b
  by_cases hclass : classOf b = .channelVoice
  · rw [openEvent_channelVoice (hvoice.trans (decide_eq_true hclass)), if_pos hclass]
  · rw [openEvent_systemCommon (hvoice.trans (decide_eq_false hclass)), if_neg hclass]

/-- Settles O11: the seven kinds latch their byte. -/
theorem channelVoiceStatusOpensMessage : Obligations.ChannelVoiceStatusOpensMessage := fun c n s =>
  have hopen (k : Kind) (hk : k.isChannelVoice = true) (t : Nibble) :=
    congrArg Host.Outcome.next (openEvent_channelVoice hk c (statusByte t n) s)
  ⟨hopen .noteOff rfl 0x8#4, hopen .noteOn rfl 0x9#4, hopen .polyAt rfl 0xA#4, hopen .cc rfl 0xB#4, hopen .pc rfl 0xC#4,
    hopen .chanAt rfl 0xD#4, hopen .pitchWheel rfl 0xE#4⟩

/-- Settles O12: the five kinds cancel running status. -/
theorem systemCommonStatusOpensMessage : Obligations.SystemCommonStatusOpensMessage := fun c s =>
  have hopen (k : Kind) (hk : k.isChannelVoice = false) (b : Byte) :=
    congrArg Host.Outcome.next (openEvent_systemCommon hk c b s)
  ⟨hopen .sysexStart rfl 0xF0#8, hopen .quarterFrame rfl 0xF1#8, hopen .songPos rfl 0xF2#8, hopen .songSel rfl 0xF3#8,
    hopen .measureEnd rfl 0xF9#8⟩

/-! ## Real-time bytes without a handler (41_router.md R162) -/

theorem realTimeEvent_of_no_handler {b : Byte} (hb : classOf b = .realTime ∧ b ≠ 0xF8#8 ∧ b ≠ 0xFA#8) (c : Chan) (s : State) :
    realTimeEvent c b s = { s with out := { Outputs.quiet with msg := some ⟨c, b, 0#7, 0#7, 1#2⟩ } } := by
  obtain ⟨hclass, hclock, hstart⟩ := hb
  obtain ⟨n, h, hn⟩ := realTimeEvent_writes hclass c s
  rw [h, hn hclock hstart]

/-- Settles O14: only 0xF8 and 0xFA write a register. -/
theorem handlerlessRealTimeByteOnlyEmits : Obligations.HandlerlessRealTimeByteOnlyEmits := fun c s =>
  have hemits (b : Byte) (hb : classOf b = .realTime ∧ b ≠ 0xF8#8 ∧ b ≠ 0xFA#8) :=
    congrArg Host.Outcome.next (realTimeEvent_of_no_handler hb c s)
  ⟨hemits 0xF6#8 (by decide), hemits 0xF7#8 (by decide), hemits 0xFB#8 (by decide), hemits 0xFC#8 (by decide),
    hemits 0xFD#8 (by decide), hemits 0xFE#8 (by decide), hemits 0xFF#8 (by decide)⟩

/-! ## Data bytes (40_decoder.md R111, R112) -/

theorem dataByte_of_idle {r : Decoder} (h : r.bytesExpected = 0#2) (c : Chan) (d : Data7) : r.dataByte c d = (r, none) :=
  if_pos h

theorem dataByte_of_more {r : Decoder} (hopen : r.bytesExpected ≠ 0#2) (hmore : r.bytesReceived + 1#2 ≠ r.bytesExpected)
    (c : Chan) (d : Data7) : r.dataByte c d = (r.store d, none) :=
  (if_neg hopen).trans (if_neg hmore)

theorem dataByte_of_last {r : Decoder} (hopen : r.bytesExpected ≠ 0#2) (hlast : r.bytesReceived + 1#2 = r.bytesExpected)
    (c : Chan) (d : Data7) : r.dataByte c d = ((r.store d).afterComplete, some ((r.store d).message c)) :=
  (if_neg hopen).trans (if_pos hlast)

theorem dataEvent_of_dataByte {s : State} {c : Chan} {d : Data7} {r : Decoder} {o : Option Msg}
    (h : (s.dec c).dataByte c d = (r, o)) : dataEvent c d s = (s.beginEvent.setDec c r).deliver o := by
  rw [dataEvent, h]

@[simp] theorem dataEvent_dec (c : Chan) (d : Data7) (s : State) : (dataEvent c d s).dec c = ((s.dec c).dataByte c d).1 := by
  rw [dataEvent, State.deliver_dec, State.setDec_dec]

/-- Settles O17: the decoder keeps its registers, and nothing is delivered. -/
theorem dataByteWhileIdleDiscarded : Obligations.DataByteWhileIdleDiscarded := by
  intro c d s hidle
  rw [exec_data, dataEvent_of_dataByte (dataByte_of_idle hidle c d), ← State.beginEvent_dec, State.setDec_dec_self]
  rfl

/-- Settles O18: the byte is stored, and nothing is delivered. -/
theorem dataByteStoredByPosition : Obligations.DataByteStoredByPosition := by
  intro c d s hopen hmore
  rw [exec_data, dataEvent_of_dataByte (dataByte_of_more hopen hmore c d)]
  rfl

/-! ## The last data byte -/

/-- The byte that fills a three-byte message is its second data byte, the one that fills a two-byte message its first. -/
theorem store_data_of_last {r : Decoder} (hlast : r.bytesReceived + 1#2 = r.bytesExpected) (d : Data7) :
    (r.bytesExpected = 3#2 → (r.store d).data1 = r.data1 ∧ (r.store d).data2 = d) ∧
    (r.bytesExpected = 2#2 → (r.store d).data1 = d ∧ (r.store d).data2 = r.data2) := by
  constructor <;> intro hexp <;> rw [hexp] at hlast
  · have hpos : r.bytesReceived ≠ 1#2 := by bv_omega
    exact ⟨if_neg hpos, if_neg hpos⟩
  · have hpos : r.bytesReceived = 1#2 := by bv_omega
    exact ⟨if_pos hpos, if_pos hpos⟩

theorem afterComplete_data (r : Decoder) : r.afterComplete.data1 = r.data1 ∧ r.afterComplete.data2 = r.data2 := by
  obtain ⟨-, h⟩ | ⟨-, h⟩ := r.afterComplete_cases <;> rw [h] <;> exact ⟨rfl, rfl⟩

/-- Re-armed with its running status (R112). -/
theorem afterComplete_of_channelVoice {r : Decoder} (h : r.messageKind.isChannelVoice = true) :
    r.afterComplete = { r with bytesReceived := 1#2 } := if_pos h

/-- Back to idle (R112). -/
theorem afterComplete_of_not_channelVoice {r : Decoder} (h : r.messageKind.isChannelVoice = false) :
    r.afterComplete = { r with messageKind := .idle, bytesExpected := 0#2, bytesReceived := 0#2 } :=
  if_neg (Bool.eq_false_iff.1 h)

theorem messageStatus_of_channelVoice {r : Decoder} (h : r.messageKind.isChannelVoice = true) :
    r.messageStatus = r.runningStatus := by
  cases hk : r.messageKind <;> rw [hk] at h <;> simp only [Decoder.messageStatus, hk]
  case idle | sysexStart | quarterFrame | songPos | songSel | measureEnd => cases h

/-- `SC_STATUS(k)` (R112). -/
theorem messageStatus_of_systemCommon (r : Decoder) :
    (r.messageKind = .sysexStart → r.messageStatus = 0xF0#8) ∧ (r.messageKind = .quarterFrame → r.messageStatus = 0xF1#8) ∧
    (r.messageKind = .songPos → r.messageStatus = 0xF2#8) ∧ (r.messageKind = .songSel → r.messageStatus = 0xF3#8) ∧
    (r.messageKind = .measureEnd → r.messageStatus = 0xF9#8) := by
  refine ⟨?_, ?_, ?_, ?_, ?_⟩ <;> intro hk <;> simp only [Decoder.messageStatus, hk]

/-- A system common message leaves no running status behind: item 4 of R30 has it cleared already. -/
theorem runningStatus_eq_zero_of_not_channelVoice {r : Decoder} (hr : DecoderInv r)
    (h : r.messageKind.isChannelVoice = false) : r.runningStatus = 0#8 := by
  obtain ⟨-, -, -, ⟨hrun, -⟩, -⟩ := hr
  by_contra h0
  rw [hrun.1 h0] at h
  cases h

theorem len_eq_bytesExpected {r : Decoder} (hr : DecoderInv r) (hopen : r.bytesExpected ≠ 0#2) :
    r.messageKind.len = r.bytesExpected := by
  obtain ⟨hidle, -, -, -, hlen⟩ := hr
  exact (hlen (mt hidle.2 hopen)).symm

/-- Settles O19: the message and the registers are those of the decoder with the byte stored; routing keeps all but the engine and
`beat_count`. -/
theorem lastDataByteCompletesMessage : Obligations.LastDataByteCompletesMessage := by
  intro c d s hr hopen hlast
  have hbyte := dataByte_of_last hopen hlast c d
  have hlen := len_eq_bytesExpected hr hopen
  have hdec : (dataEvent c d s).dec c = ((s.dec c).store d).afterComplete := by rw [dataEvent_dec, hbyte]
  obtain ⟨hthree, htwo⟩ := store_data_of_last hlast d
  obtain ⟨hdata1, hdata2⟩ := afterComplete_data ((s.dec c).store d)
  obtain ⟨hsysex, hquarter, hpos, hsel, hmeasure⟩ := messageStatus_of_systemCommon ((s.dec c).store d)
  obtain ⟨hnow, hcfg, hparams, hinput⟩ := dataEvent_frame c d s
  refine ⟨dataEvent c d s, ((s.dec c).store d).message c, exec_data c d s, by rw [dataEvent_out, hbyte], rfl,
    fun hk => messageStatus_of_channelVoice hk, hsysex, hquarter, hpos, hsel, hmeasure, hlen, ?three, ?two, ?voice, ?common,
    dataEvent_dec_ne (by cases c <;> decide) d s, hnow, hcfg, hparams, hinput⟩ <;> rw [hdec]
  case three =>
    intro hexp
    obtain ⟨h1, h2⟩ := hthree hexp
    exact ⟨h1, (if_pos (hlen.trans hexp)).trans h2, hdata1.trans h1, hdata2.trans h2⟩
  case two =>
    intro hexp
    obtain ⟨h1, h2⟩ := htwo hexp
    have hshort : (s.dec c).messageKind.len ≠ 3#2 := by rw [hlen, hexp]; decide
    exact ⟨h1, if_neg hshort, hdata1.trans h1, hdata2.trans h2⟩
  case voice =>
    intro hk
    rw [afterComplete_of_channelVoice (r := (s.dec c).store d) hk]
    exact ⟨rfl, rfl, rfl, rfl⟩
  case common =>
    intro hk
    have hnone : (s.dec c).runningStatus = 0#8 := runningStatus_eq_zero_of_not_channelVoice hr hk
    rw [afterComplete_of_not_channelVoice (r := (s.dec c).store d) hk]
    exact ⟨rfl, rfl, rfl, hnone⟩

/-! ## A byte and its decoder (40_decoder.md R139 item 6, 10_state.md R24) -/

/-- What a byte received on `c` makes of the decoder `r` of that channel, and the message it emits, if any. -/
def decodeOn (c : Chan) (b : Byte) (r : Decoder) : Decoder × Option Msg :=
  match classOf b with
  | .data => r.dataByte c (b.extractLsb' 0 7)
  | .channelVoice | .systemCommon => (r.openMessage (kindOf b) b, none)
  | .realTime => (r, some ⟨c, b, 0#7, 0#7, 1#2⟩)
  | .undefined => (r, none)

/-- `FEED` is `decodeOn` on its own decoder and on the message ports, and keeps the other decoder. -/
theorem feedByClass_decodeOn (c : Chan) (b : Byte) (s : State) :
    (feedByClass c b s).dec c = (decodeOn c b (s.dec c)).1 ∧
      (feedByClass c b s).out = { Outputs.quiet with msg := (decodeOn c b (s.dec c)).2 } ∧
      (feedByClass c b s).dec c.other = s.dec c.other := by
  have hother : c.other ≠ c := by cases c <;> decide
  cases hb : classOf b <;> simp only [decodeOn, hb]
  case data =>
    rw [feedByClass_data hb]
    exact ⟨dataEvent_dec .., dataEvent_out .., dataEvent_dec_ne hother ..⟩
  case channelVoice =>
    rw [feedByClass_status (.inl hb)]
    exact ⟨State.setDec_dec .., openEvent_out .., openEvent_dec_ne hother ..⟩
  case systemCommon =>
    rw [feedByClass_status (.inr hb)]
    exact ⟨State.setDec_dec .., openEvent_out .., openEvent_dec_ne hother ..⟩
  case realTime =>
    obtain ⟨n, h, -⟩ := realTimeEvent_writes hb c s
    rw [feedByClass_realTime hb, h]
    exact ⟨dec_eq rfl rfl c, rfl, dec_eq rfl rfl c.other⟩
  case undefined =>
    rw [feedByClass_undefined hb]
    exact ⟨State.beginEvent_dec .., rfl, State.beginEvent_dec ..⟩

/-- Settles O43: both runs do `decodeOn` on the same decoder. -/
theorem byteEffectDependsOnItsDecoderOnly : Obligations.ByteEffectDependsOnItsDecoderOnly := by
  intro c b s1 s2 t1 t2 hdec h1 h2
  rw [everyByteRunsItsClassProcedure] at h1 h2
  cases h1
  cases h2
  obtain ⟨hdec1, hout1, hother⟩ := feedByClass_decodeOn c b s1
  obtain ⟨hdec2, hout2, -⟩ := feedByClass_decodeOn c b s2
  rw [hdec1, hdec2, hout1, hout2, hdec]
  exact ⟨rfl, rfl, hother⟩

end Sys2Proof.Proofs.Decoding
end

section
/-! PROOFS. The decoder's laws over byte sequences (40_decoder.md R139). First how `feedBytes` goes through a sequence, then what a
later byte does not see of the state before it (the ports, and `beat_count` up to its own value), which is why an inserted
real-time or undefined byte disturbs nothing; last, running status. -/

namespace Sys2Proof.Proofs.ByteSequences

open Sys2Proof.Machine Sys2Proof.Proofs.Effects Sys2Proof.Proofs.Invariants Sys2Proof.Proofs.Encoding Sys2Proof.Proofs.Decoding

/-! ## Feeding a sequence -/

theorem feedBytes_cons (c : Chan) (b : Byte) (bs : List Byte) (s : State) :
    feedBytes c (b :: bs) s =
      (feedBytes c bs (feedByClass c b s)).map fun r => (r.1, (feedByClass c b s).out.msg.toList ++ r.2) := by
  rw [feedBytes, everyByteRunsItsClassProcedure]

theorem feedBytes_cons_iff {c : Chan} {b : Byte} {bs : List Byte} {s t : State} {ms : List Msg} :
    feedBytes c (b :: bs) s = some (t, ms) ↔
      ∃ ns, feedBytes c bs (feedByClass c b s) = some (t, ns) ∧ (feedByClass c b s).out.msg.toList ++ ns = ms := by
  simp [feedBytes_cons, Option.map_eq_some_iff]

theorem feedBytes_append {c : Chan} {bs es : List Byte} {s u t : State} {ms ns : List Msg}
    (hbs : feedBytes c bs s = some (u, ms)) (hes : feedBytes c es u = some (t, ns)) :
    feedBytes c (bs ++ es) s = some (t, ms ++ ns) := by
  induction bs generalizing s ms with
  | nil => cases hbs; exact hes
  | cons b bs ih =>
    obtain ⟨ms', hbs', rfl⟩ := feedBytes_cons_iff.1 hbs
    exact feedBytes_cons_iff.2 ⟨ms' ++ ns, ih hbs', (List.append_assoc ..).symm⟩

/-- A status byte emits nothing. -/
theorem feedBytes_status_cons {c : Chan} {b : Byte} {bs : List Byte} {s : State}
    (hb : classOf b = .channelVoice ∨ classOf b = .systemCommon) :
    feedBytes c (b :: bs) s = feedBytes c bs (openEvent c (kindOf b) b s) := by
  rw [feedBytes_cons, feedByClass_status hb, openEvent_out]
  exact Option.map_id'

/-- An undefined byte emits nothing. -/
theorem feedBytes_undefined_cons {c : Chan} {b : Byte} {bs : List Byte} {s : State} (hb : classOf b = .undefined) :
    feedBytes c (b :: bs) s = feedBytes c bs { s with out := Outputs.quiet } := by
  rw [feedBytes_cons, feedByClass_undefined hb, State.beginEvent_out]
  exact Option.map_id'

/-- A data byte emits what `DATA_BYTE` does on its decoder. -/
theorem feedBytes_dataByte_cons {c : Chan} {d : Data7} {bs : List Byte} {s t : State} {ms : List Msg}
    (h : feedBytes c bs (dataEvent c d s) = some (t, ms)) :
    feedBytes c ((0#1 ++ d) :: bs) s = some (t, ((s.dec c).dataByte c d).2.toList ++ ms) := by
  rw [feedBytes_cons, feedByClass_dataByte, h, dataEvent_out]
  rfl

/-! ## What a byte does not see of the state before it -/

/-- An event starts with no port driven, so it sees none of the event before (10_state.md R20). -/
theorem feedByClass_withOut (c : Chan) (b : Byte) (s : State) (o : Outputs) :
    feedByClass c b { s with out := o } = feedByClass c b s := by
  cases hb : classOf b <;> simp only [feedByClass, hb] <;> rfl

theorem feedBytes_withOut_of_ne_nil {bs : List Byte} (hbs : bs ≠ []) (c : Chan) (s : State) (o : Outputs) :
    feedBytes c bs { s with out := o } = feedBytes c bs s := by
  cases bs with
  | nil => exact absurd rfl hbs
  | cons b bs => rw [feedBytes_cons, feedBytes_cons, feedByClass_withOut]

theorem feedBytes_withOut {c : Chan} {bs : List Byte} {s t : State} {ms : List Msg} (h : feedBytes c bs s = some (t, ms))
    (o : Outputs) : ∃ o', feedBytes c bs { s with out := o } = some ({ t with out := o' }, ms) := by
  by_cases hbs : bs = []
  · subst hbs; cases h; exact ⟨o, rfl⟩
  · exact ⟨t.out, (feedBytes_withOut_of_ne_nil hbs c s o).trans h⟩

theorem routeVoice_withBeatCount (s : State) (m : Msg) (n : BitVec 5) :
    ({ s with beatCount := n } : State).routeVoice m = { s.routeVoice m with beatCount := n } := by
  unfold State.routeVoice State.noteOnHandler
  split_ifs <;> rfl

/-- Only the real-time handlers read `beat_count`, and they write nothing else (41_router.md R160, R161). -/
theorem route_withBeatCount (s : State) (m : Msg) (n : BitVec 5) :
    ∃ n', ({ s with beatCount := n } : State).route m = { s.route m with beatCount := n' } := by
  unfold State.route
  cases classOf m.status
  case data => exact ⟨n, rfl⟩
  case systemCommon => exact ⟨n, rfl⟩
  case undefined => exact ⟨n, rfl⟩
  case channelVoice =>
    refine ⟨n, ?_⟩
    dsimp only
    split_ifs
    · exact routeVoice_withBeatCount s m n
    · rfl
  case realTime =>
    unfold State.routeRealTime
    dsimp only
    split_ifs
    · exact ⟨nextBeat n, rfl⟩
    · exact ⟨0#5, rfl⟩
    · exact ⟨n, rfl⟩

theorem deliver_withBeatCount (s : State) (o : Option Msg) (n : BitVec 5) :
    ∃ n', ({ s with beatCount := n } : State).deliver o = { s.deliver o with beatCount := n' } := by
  cases o with
  | none => exact ⟨n, rfl⟩
  | some m => exact route_withBeatCount (s.emit m) m n

theorem setDec_withBeatCount (s : State) (c : Chan) (r : Decoder) (n : BitVec 5) :
    ({ s with beatCount := n } : State).setDec c r = { s.setDec c r with beatCount := n } := by
  cases c <;> rfl

theorem feedByClass_withBeatCount (c : Chan) (b : Byte) (s : State) (n : BitVec 5) :
    ∃ n', feedByClass c b { s with beatCount := n } = { feedByClass c b s with beatCount := n' } := by
  cases hb : classOf b <;> simp only [feedByClass, hb]
  case data =>
    obtain ⟨n', h⟩ := deliver_withBeatCount (s.beginEvent.setDec c ((s.dec c).dataByte c (b.extractLsb' 0 7)).1)
      ((s.dec c).dataByte c (b.extractLsb' 0 7)).2 n
    rw [← setDec_withBeatCount] at h
    exact ⟨n', h⟩
  case channelVoice => exact ⟨n, setDec_withBeatCount s.beginEvent c _ n⟩
  case systemCommon => exact ⟨n, setDec_withBeatCount s.beginEvent c _ n⟩
  case realTime => exact deliver_withBeatCount s.beginEvent _ n
  case undefined => exact ⟨n, rfl⟩

theorem feedBytes_withBeatCount {c : Chan} {bs : List Byte} {s t : State} {ms : List Msg}
    (h : feedBytes c bs s = some (t, ms)) (n : BitVec 5) :
    ∃ n', feedBytes c bs { s with beatCount := n } = some ({ t with beatCount := n' }, ms) := by
  induction bs generalizing s ms n with
  | nil => cases h; exact ⟨n, rfl⟩
  | cons b bs ih =>
    obtain ⟨ns, hbs, rfl⟩ := feedBytes_cons_iff.1 h
    obtain ⟨n₁, hb⟩ := feedByClass_withBeatCount c b s n
    obtain ⟨n₂, hbs'⟩ := ih hbs n₁
    exact ⟨n₂, feedBytes_cons_iff.2 ⟨ns, by rw [hb, hbs'], by rw [hb]⟩⟩

/-! ## Inserted bytes (R139 items 3 and 4) -/

/-- Settles O41: the inserted byte writes the ports and `beat_count`, and the bytes after it pass only these two on. -/
theorem realTimeByteInsertedAnywhere : Obligations.RealTimeByteInsertedAnywhere := by
  intro c r bs es s u t ms ns hr hbs hes
  obtain ⟨n, hevent, -⟩ := realTimeEvent_writes hr c u
  rw [← feedByClass_realTime hr] at hevent
  obtain ⟨o, hes'⟩ := feedBytes_withOut hes { Outputs.quiet with msg := some ⟨c, r, 0#7, 0#7, 1#2⟩ }
  obtain ⟨n', hes''⟩ := feedBytes_withBeatCount hes' n
  have hrest : feedBytes c (r :: es) u = some ({ t with out := o, beatCount := n' }, ⟨c, r, 0#7, 0#7, 1#2⟩ :: ns) :=
    feedBytes_cons_iff.2 ⟨ns, by rw [hevent, hes''], by rw [hevent]; rfl⟩
  exact ⟨{ t with out := o, beatCount := n' }, feedBytes_append hbs hrest, rfl⟩

/-- Settles O42: the inserted byte leaves the ports quiet, and the bytes after it pass only that on. -/
theorem undefinedByteInsertedAnywhere : Obligations.UndefinedByteInsertedAnywhere := by
  intro c r bs es s u t ms ns hr hbs hes
  obtain ⟨o, hes'⟩ := feedBytes_withOut hes Outputs.quiet
  exact ⟨{ t with out := o }, feedBytes_append hbs ((feedBytes_undefined_cons hr).trans hes'), rfl⟩

/-- Settles O13: the example is the Note-On of two data bytes with the undefined byte inserted between them. -/
theorem undefinedStatusIgnored : Obligations.UndefinedStatusIgnored := by
  refine fun c s => ⟨rfl, rfl, fun r hr => ?_⟩
  have hopen : feedBytes .ch0 [0x90#8, 0x3C#8] s = some (dataEvent .ch0 0x3C#7 (openEvent .ch0 .noteOn 0x90#8 s), []) :=
    (feedBytes_status_cons (by decide)).trans (feedBytes_dataByte_cons (d := 0x3C#7) rfl)
  have hlast : feedBytes .ch0 [0x64#8] (dataEvent .ch0 0x3C#7 (openEvent .ch0 .noteOn 0x90#8 s)) =
      some (dataEvent .ch0 0x64#7 (dataEvent .ch0 0x3C#7 (openEvent .ch0 .noteOn 0x90#8 s)),
        [⟨.ch0, 0x90#8, 0x3C#7, 0x64#7, 3#2⟩]) :=
    feedBytes_dataByte_cons (d := 0x64#7) rfl
  obtain ⟨t, ht, -⟩ :=
    undefinedByteInsertedAnywhere .ch0 r _ _ s _ _ _ _ ((classOf_eq_undefined_iff r).2 hr) hopen hlast
  exact ⟨t, ht⟩

/-! ## Running status (R139 item 1) -/

/-- The decoder receives messages of the channel-voice status `st`. -/
structure HoldsStatus (st : Byte) (r : Decoder) : Prop where
  status : r.runningStatus = st
  kind : r.messageKind = kindOf st
  expected : r.bytesExpected = (kindOf st).len

theorem kindOf_isChannelVoice_of_class {st : Byte} (hst : classOf st = .channelVoice) : (kindOf st).isChannelVoice = true :=
  (kindOf_isChannelVoice st).trans (decide_eq_true hst)

theorem holdsStatus_openMessage {st : Byte} (hst : classOf st = .channelVoice) (r : Decoder) :
    HoldsStatus st (r.openMessage (kindOf st) st) :=
  ⟨if_pos (kindOf_isChannelVoice_of_class hst), rfl, rfl⟩

theorem holdsStatus_store {st : Byte} {r : Decoder} (h : HoldsStatus st r) (d : Data7) : HoldsStatus st (r.store d) :=
  ⟨h.status, h.kind, h.expected⟩

/-- The re-armed decoder stands as the repeated status byte would open it. -/
theorem openMessage_of_holdsStatus {st : Byte} {r : Decoder} (hst : classOf st = .channelVoice) (h : HoldsStatus st r)
    (hone : r.bytesReceived = 1#2) : r.openMessage (kindOf st) st = r := by
  obtain ⟨hstatus, hkind, hexpected⟩ := h
  rw [Decoder.openMessage, if_pos (kindOf_isChannelVoice_of_class hst), ← hexpected, ← hkind, ← hone, ← hstatus]

/-- The bytes `bs` make one message of the status `st` from `s`, and re-arm the decoder for the next (40_decoder.md R112). -/
def CompletesMessage (c : Chan) (st : Byte) (bs : List Byte) (s : State) : Prop :=
  ∃ (u : State) (m : Msg), feedBytes c bs s = some (u, [m]) ∧ m.status = st ∧ HoldsStatus st (u.dec c) ∧
    (u.dec c).bytesReceived = 1#2

theorem completesMessage_last_dataByte {st : Byte} (hst : classOf st = .channelVoice) {c : Chan} {s : State}
    (hs : HoldsStatus st (s.dec c)) (hcount : (s.dec c).bytesReceived.toNat + 1 = (s.dec c).bytesExpected.toNat) (d : Data7) :
    CompletesMessage c st [0#1 ++ d] s := by
  have hvoice : ((s.dec c).store d).messageKind.isChannelVoice = true :=
    (congrArg _ hs.kind).trans (kindOf_isChannelVoice_of_class hst)
  have hbyte := dataByte_of_last (r := s.dec c) (by bv_omega) (by bv_omega) c d
  have hfeed : feedBytes c [0#1 ++ d] s = some (dataEvent c d s, [((s.dec c).store d).message c]) := by
    rw [feedBytes_dataByte_cons rfl, hbyte]; rfl
  refine ⟨_, _, hfeed, (messageStatus_of_channelVoice hvoice).trans hs.status, ?_⟩
  rw [dataEvent_dec, hbyte, afterComplete_of_channelVoice hvoice]
  exact ⟨⟨hs.status, hs.kind, hs.expected⟩, rfl⟩

/-- By induction on the data bytes still missing: each but the last is stored. -/
theorem completesMessage_missing_data {st : Byte} (hst : classOf st = .channelVoice) {c : Chan} {ds : List Data7} {s : State}
    (hs : HoldsStatus st (s.dec c)) (hne : ds ≠ [])
    (hcount : (s.dec c).bytesReceived.toNat + ds.length = (s.dec c).bytesExpected.toNat) :
    CompletesMessage c st (ds.map (0#1 ++ ·)) s := by
  induction ds generalizing s with
  | nil => exact absurd rfl hne
  | cons d ds ih =>
    cases ds with
    | nil => exact completesMessage_last_dataByte hst hs hcount d
    | cons e ds =>
      simp only [List.length_cons] at hcount ih
      have hbyte := dataByte_of_more (r := s.dec c) (by bv_omega) (by bv_omega) c d
      have hdec : (dataEvent c d s).dec c = (s.dec c).store d := by rw [dataEvent_dec, hbyte]
      have hmissing : ((s.dec c).bytesReceived + 1#2).toNat + (ds.length + 1) = (s.dec c).bytesExpected.toNat := by bv_omega
      obtain ⟨u, m, hfeed, hrest⟩ := ih (s := dataEvent c d s) (by rw [hdec]; exact holdsStatus_store hs d)
        (List.cons_ne_nil e ds) (by rw [hdec]; exact hmissing)
      refine ⟨u, m, ?_, hrest⟩
      rw [List.map_cons, feedBytes_dataByte_cons hfeed, hbyte]
      rfl

/-- A whole message's data bytes, the status byte sent or held. -/
theorem completesMessage_data {st : Byte} (hst : classOf st = .channelVoice) {c : Chan} {ds : List Data7} {s : State}
    (hs : HoldsStatus st (s.dec c)) (hone : (s.dec c).bytesReceived = 1#2) (hne : ds ≠ [])
    (hds : ds.length + 1 = (kindOf st).len.toNat) : CompletesMessage c st (ds.map (0#1 ++ ·)) s :=
  completesMessage_missing_data hst hs hne (by rw [hone, hs.expected, ← hds, Nat.add_comm]; rfl)

theorem data_ne_nil {st : Byte} (hst : classOf st = .channelVoice) {ds : List Data7}
    (hds : ds.length + 1 = (kindOf st).len.toNat) : ds ≠ [] := by
  obtain ⟨-, hlen, -⟩ := openMessage_facts (.inl hst)
  exact List.ne_nil_of_length_pos (by omega)

/-- Settles O40: after the first message the decoder is armed with its status, so the repeated status byte only quiets the ports. -/
theorem runningStatusEquivalence : Obligations.RunningStatusEquivalence := by
  intro c st ds es s hst hds hes
  have hdec : (openEvent c (kindOf st) st s).dec c = (s.dec c).openMessage (kindOf st) st := State.setDec_dec ..
  obtain ⟨u, m1, hfirst, hm1, hholds, harmed⟩ := completesMessage_data hst (s := openEvent c (kindOf st) st s)
    (by rw [hdec]; exact holdsStatus_openMessage hst _) (by rw [hdec]; rfl) (data_ne_nil hst hds) hds
  obtain ⟨t, m2, homitted, hm2, -⟩ := completesMessage_data hst hholds harmed (data_ne_nil hst hes) hes
  have hmessage : feedBytes c (st :: ds.map (0#1 ++ ·)) s = some (u, [m1]) :=
    (feedBytes_status_cons (.inl hst)).trans hfirst
  have hquiet : openEvent c (kindOf st) st u = { u with out := Outputs.quiet } := by
    rw [openEvent, openMessage_of_holdsStatus hst hholds harmed, ← State.beginEvent_dec, State.setDec_dec_self]
    rfl
  have hrepeated : feedBytes c (st :: es.map (0#1 ++ ·)) u = some (t, [m2]) := by
    rw [feedBytes_status_cons (.inl hst), hquiet,
      feedBytes_withOut_of_ne_nil (mt List.map_eq_nil_iff.1 (data_ne_nil hst hes)), homitted]
  exact ⟨t, m1, m2, feedBytes_append hmessage hrepeated, feedBytes_append hmessage homitted, hm1, hm2⟩

end Sys2Proof.Proofs.ByteSequences
end

section
/-! PROOFS. The Message Router (41_router.md R150..R163). First what `ROUTE` does with a message of each class, then the message
that the last data byte hands to it; the statements put the two together. Last, the two real-time bytes with a handler. -/

namespace Sys2Proof.Proofs.Routing

open Sys2Proof.Machine Sys2Proof.Proofs.Effects Sys2Proof.Proofs.Encoding Sys2Proof.Proofs.Decoding

/-! ## The channel filter (41_router.md R158) -/

theorem typeNibble_append (t n : Nibble) : typeNibble (t ++ n) = t := extractLsb'_statusByte_high t n

theorem channelNibble_append (t n : Nibble) : channelNibble (t ++ n) = n := extractLsb'_statusByte_low t n

theorem pass_append_iff (r : CfgRegs) (c : Chan) (t n : Nibble) :
    pass r c (t ++ n) = true ↔ (channelFilter r c).toNat = 0 ∨ (channelFilter r c).toNat = n.toNat + 1 := by
  rw [Machine.pass, channelNibble_append, Bool.or_eq_true, decide_eq_true_iff, decide_eq_true_iff]

/-! ## `ROUTE`, class by class (41_router.md R150) -/

theorem route_of_passed {s : State} {m : Msg} (hclass : classOf m.status = .channelVoice)
    (hpass : pass s.cfg m.chan m.status = true) : s.route m = s.routeVoice m := by
  simp only [State.route, hclass, hpass, if_true]

theorem route_of_dropped {s : State} {m : Msg} (hclass : classOf m.status = .channelVoice)
    (hpass : ¬ pass s.cfg m.chan m.status = true) : s.route m = s := by
  simp only [State.route, hclass, if_neg hpass]

/-- Where the handler has no effect, the filter makes no difference. -/
theorem route_of_routeVoice_self {s : State} {m : Msg} (hclass : classOf m.status = .channelVoice)
    (h : s.routeVoice m = s) : s.route m = s := by
  by_cases hpass : pass s.cfg m.chan m.status = true
  · rw [route_of_passed hclass hpass, h]
  · exact route_of_dropped hclass hpass

/-- System common messages have no handler (R157). -/
theorem route_of_systemCommon {s : State} {m : Msg} (hclass : classOf m.status = .systemCommon) : s.route m = s := by
  simp only [State.route, hclass]

theorem route_of_realTime {s : State} {m : Msg} (hclass : classOf m.status = .realTime) : s.route m = s.routeRealTime m := by
  simp only [State.route, hclass]

/-! ## The channel-voice handlers, by type nibble (41_router.md R151..R156) -/

theorem routeVoice_noteOn {s : State} {m : Msg} (h : typeNibble m.status = 0x9#4) : s.routeVoice m = s.noteOnHandler m :=
  if_pos h

theorem routeVoice_pitchWheel {s : State} {m : Msg} (h : typeNibble m.status = 0xE#4) :
    s.routeVoice m = s.pwUpdate (value14 m.data1 m.data2) :=
  (if_neg (by rw [h]; decide)).trans (if_pos h)

theorem routeVoice_of_no_handler {s : State} {m : Msg} (hon : typeNibble m.status ≠ 0x9#4)
    (hwheel : typeNibble m.status ≠ 0xE#4) : s.routeVoice m = s :=
  (if_neg hon).trans (if_neg hwheel)

/-- The type nibble of a channel-voice message without a handler (41_router.md R152..R155). -/
abbrev Handlerless (t : Nibble) : Prop := t ≠ 0x9#4 ∧ t ≠ 0xE#4

theorem route_of_handlerless {t n : Nibble} (hclass : classOf (t ++ n) = .channelVoice) (ht : Handlerless t) (s : State)
    {m : Msg} (hm : m.status = t ++ n) : s.route m = s := by
  obtain ⟨hon, hwheel⟩ := ht
  rw [← typeNibble_append t n, ← hm] at hon hwheel
  exact route_of_routeVoice_self (hm ▸ hclass) (routeVoice_of_no_handler hon hwheel)

theorem noteOnHandler_of_noteOff {s : State} {m : Msg} (hvel0 : s.params.vel0IsNoteOff = true) (hdata2 : m.data2 = 0#7) :
    s.noteOnHandler m = s :=
  if_pos ⟨hvel0, hdata2⟩

/-! ## The completed message (40_decoder.md R111, R112) -/

/-- The second data byte of a three-byte message. -/
theorem dataByte_second_of_three {k : Kind} (hlen : k.len = 3#2) (rs : Byte) (d1 d2 v : Data7) (c : Chan) :
    (⟨rs, k, d1, d2, 2#2, 3#2⟩ : Decoder).dataByte c v =
      ((⟨rs, k, d1, v, 3#2, 3#2⟩ : Decoder).afterComplete,
        some ⟨c, (⟨rs, k, d1, v, 3#2, 3#2⟩ : Decoder).messageStatus, d1, v, 3#2⟩) := by
  rw [dataByte_of_last (by change 3#2 ≠ 0#2; decide) rfl]
  have hmessage : (⟨rs, k, d1, v, 3#2, 3#2⟩ : Decoder).message c =
      ⟨c, (⟨rs, k, d1, v, 3#2, 3#2⟩ : Decoder).messageStatus, d1, v, 3#2⟩ := by
    simp only [Decoder.message, hlen, if_true]
  exact congrArg (fun m => (_, some m)) hmessage

/-- The only data byte of a two-byte message. -/
theorem dataByte_first_of_two {k : Kind} (hlen : k.len = 2#2) (rs : Byte) (d1 d2 v : Data7) (c : Chan) :
    (⟨rs, k, d1, d2, 1#2, 2#2⟩ : Decoder).dataByte c v =
      ((⟨rs, k, v, d2, 2#2, 2#2⟩ : Decoder).afterComplete,
        some ⟨c, (⟨rs, k, v, d2, 2#2, 2#2⟩ : Decoder).messageStatus, v, 0#7, 2#2⟩) := by
  rw [dataByte_of_last (by change 2#2 ≠ 0#2; decide) rfl]
  have hmessage : (⟨rs, k, v, d2, 2#2, 2#2⟩ : Decoder).message c =
      ⟨c, (⟨rs, k, v, d2, 2#2, 2#2⟩ : Decoder).messageStatus, v, 0#7, 2#2⟩ := by
    simp [Decoder.message, hlen]
  exact congrArg (fun m => (_, some m)) hmessage

theorem dataByte_voice_three {k : Kind} (hk : k.isChannelVoice = true) (hlen : k.len = 3#2) (st : Byte) (d1 d2 v : Data7)
    (c : Chan) :
    (⟨st, k, d1, d2, 2#2, 3#2⟩ : Decoder).dataByte c v = (⟨st, k, d1, v, 1#2, 3#2⟩, some ⟨c, st, d1, v, 3#2⟩) := by
  rw [dataByte_second_of_three hlen, afterComplete_of_channelVoice hk, messageStatus_of_channelVoice hk]

theorem dataByte_voice_two {k : Kind} (hk : k.isChannelVoice = true) (hlen : k.len = 2#2) (st : Byte) (d1 d2 v : Data7)
    (c : Chan) :
    (⟨st, k, d1, d2, 1#2, 2#2⟩ : Decoder).dataByte c v = (⟨st, k, v, d2, 1#2, 2#2⟩, some ⟨c, st, v, 0#7, 2#2⟩) := by
  rw [dataByte_first_of_two hlen, afterComplete_of_channelVoice hk, messageStatus_of_channelVoice hk]

/-- `SC_STATUS` gives back the byte that opened the message (R112). -/
theorem messageStatus_of_kindOf {b : Byte} (hb : classOf b = .systemCommon) {r : Decoder} (hk : r.messageKind = kindOf b) :
    r.messageStatus = b := by
  obtain ⟨hsysex, hquarter, hpos, hsel, hmeasure⟩ := messageStatus_of_systemCommon r
  have hbyte := (classOf_eq_systemCommon_iff b).1 hb
  simp only [List.mem_cons, List.not_mem_nil, or_false] at hbyte
  obtain rfl | rfl | rfl | rfl | rfl := hbyte
  · exact hsysex hk
  · exact hquarter hk
  · exact hpos hk
  · exact hsel hk
  · exact hmeasure hk

theorem kindOf_not_channelVoice {b : Byte} (hb : classOf b = .systemCommon) : (kindOf b).isChannelVoice = false := by
  rw [kindOf_isChannelVoice, hb]; rfl

theorem dataByte_common_three {b : Byte} (hb : classOf b = .systemCommon) (hlen : (kindOf b).len = 3#2) (d1 d2 v : Data7)
    (c : Chan) :
    (⟨0#8, kindOf b, d1, d2, 2#2, 3#2⟩ : Decoder).dataByte c v =
      (⟨0#8, .idle, d1, v, 0#2, 0#2⟩, some ⟨c, b, d1, v, 3#2⟩) := by
  rw [dataByte_second_of_three hlen, afterComplete_of_not_channelVoice (kindOf_not_channelVoice hb),
    messageStatus_of_kindOf hb rfl]

theorem dataByte_common_two {b : Byte} (hb : classOf b = .systemCommon) (hlen : (kindOf b).len = 2#2) (d1 d2 v : Data7)
    (c : Chan) :
    (⟨0#8, kindOf b, d1, d2, 1#2, 2#2⟩ : Decoder).dataByte c v =
      (⟨0#8, .idle, v, d2, 0#2, 0#2⟩, some ⟨c, b, v, 0#7, 2#2⟩) := by
  rw [dataByte_first_of_two hlen, afterComplete_of_not_channelVoice (kindOf_not_channelVoice hb),
    messageStatus_of_kindOf hb rfl]

/-! ## The completing event: the decoder and the message ports, then the router -/

/-- The state `s` with the registers `r` in `dec[c]` and the message `m` on the ports: what `ROUTE(m)` starts from (R110). -/
abbrev emitted (s : State) (c : Chan) (r : Decoder) (m : Msg) : State :=
  { s.setDec c r with out := { Outputs.quiet with msg := some m } }

theorem exec_data_completed {c : Chan} {d : Data7} {s : State} {r : Decoder} {m : Msg}
    (h : (s.dec c).dataByte c d = (r, some m)) : exec (.data c d) s = .next ((emitted s c r m).route m) := by
  rw [exec_data, dataEvent_of_dataByte h, State.deliver]
  cases c <;> rfl

/-- A completed message that the router leaves alone is only emitted. -/
theorem exec_data_only_emits {c : Chan} {d : Data7} {s : State} {r : Decoder} {m : Msg}
    (h : (s.dec c).dataByte c d = (r, some m)) (hroute : (emitted s c r m).route m = emitted s c r m) :
    exec (.data c d) s = .next (emitted s c r m) := by
  rw [exec_data_completed h, hroute]

theorem pass_emitted_iff (s : State) (c : Chan) (r : Decoder) (m : Msg) (t n : Nibble) :
    pass (emitted s c r m).cfg c (t ++ n) = true ↔
      (channelFilter s.cfg c).toNat = 0 ∨ (channelFilter s.cfg c).toNat = n.toNat + 1 := by
  rw [pass_append_iff, State.setDec_cfg]

/-- The status bytes with type nibble `t` open channel-voice messages of kind `k`, `len` bytes long (30_encoding.md R83, R87). -/
abbrev VoiceRow (k : Kind) (t : Nibble) (len : BitVec 2) : Prop :=
  k.isChannelVoice = true ∧ k.len = len ∧ ∀ n : Nibble, classOf (t ++ n) = .channelVoice

/-- Settles O23: the router has no handler for the five type nibbles, passed or not. -/
theorem handlerlessVoiceMessageOnlyEmits : Obligations.HandlerlessVoiceMessageOnlyEmits := by
  intro c n d1 d2 v s
  have three : ∀ p ∈ [(Kind.noteOff, 0x8#4), (Kind.polyAt, 0xA#4), (Kind.cc, 0xB#4)],
      VoiceRow p.1 p.2 3#2 ∧ Handlerless p.2 := by decide
  have two : ∀ p ∈ [(Kind.pc, 0xC#4), (Kind.chanAt, 0xD#4)], VoiceRow p.1 p.2 2#2 ∧ Handlerless p.2 := by decide
  constructor <;> intro p hp hdec
  · obtain ⟨⟨hk, hlen, hclass⟩, hnone⟩ := three p hp
    exact exec_data_only_emits (hdec ▸ dataByte_voice_three hk hlen ..) (route_of_handlerless (hclass n) hnone _ rfl)
  · obtain ⟨⟨hk, hlen, hclass⟩, hnone⟩ := two p hp
    exact exec_data_only_emits (hdec ▸ dataByte_voice_two hk hlen ..) (route_of_handlerless (hclass n) hnone _ rfl)

/-- Settles O24: the filter's own two cases, and the router drops a message of either length that passes neither. -/
theorem filteredMessageDropped : Obligations.FilteredMessageDropped := by
  refine ⟨fun r n t => ⟨pass_append_iff r .ch0 t n, pass_append_iff r .ch1 t n⟩, fun c n d1 d2 v s hall hchannel => ?_⟩
  have three : ∀ p ∈ [(Kind.noteOff, 0x8#4), (Kind.noteOn, 0x9#4), (Kind.polyAt, 0xA#4), (Kind.cc, 0xB#4),
      (Kind.pitchWheel, 0xE#4)], VoiceRow p.1 p.2 3#2 := by decide
  have two : ∀ p ∈ [(Kind.pc, 0xC#4), (Kind.chanAt, 0xD#4)], VoiceRow p.1 p.2 2#2 := by decide
  have hdrop (r : Decoder) (m : Msg) (t : Nibble) : ¬ pass (emitted s c r m).cfg c (t ++ n) = true := by
    rw [pass_emitted_iff, not_or]
    exact ⟨hall, hchannel⟩
  constructor <;> intro p hp hdec
  · obtain ⟨hk, hlen, hclass⟩ := three p hp
    exact exec_data_only_emits (hdec ▸ dataByte_voice_three hk hlen ..) (route_of_dropped (hclass n) (hdrop _ _ _))
  · obtain ⟨hk, hlen, hclass⟩ := two p hp
    exact exec_data_only_emits (hdec ▸ dataByte_voice_two hk hlen ..) (route_of_dropped (hclass n) (hdrop _ _ _))

/-- Settles O25: the decoder goes back to idle, and the router has no handler for the class. -/
theorem systemCommonMessageReturnsToIdle : Obligations.SystemCommonMessageReturnsToIdle := by
  intro c d1 d2 v s
  have three : ∀ p ∈ [(Kind.sysexStart, 0xF0#8), (Kind.songPos, 0xF2#8)],
      kindOf p.2 = p.1 ∧ classOf p.2 = .systemCommon ∧ (kindOf p.2).len = 3#2 := by decide
  have two : ∀ p ∈ [(Kind.quarterFrame, 0xF1#8), (Kind.songSel, 0xF3#8), (Kind.measureEnd, 0xF9#8)],
      kindOf p.2 = p.1 ∧ classOf p.2 = .systemCommon ∧ (kindOf p.2).len = 2#2 := by decide
  constructor <;> intro p hp hdec
  · obtain ⟨hk, hclass, hlen⟩ := three p hp
    rw [← hk] at hdec
    exact exec_data_only_emits (hdec ▸ dataByte_common_three hclass hlen ..) (route_of_systemCommon hclass)
  · obtain ⟨hk, hclass, hlen⟩ := two p hp
    rw [← hk] at hdec
    exact exec_data_only_emits (hdec ▸ dataByte_common_two hclass hlen ..) (route_of_systemCommon hclass)

/-- Settles O21: passed or dropped, the Note-On handler takes the message for a Note-Off. -/
theorem zeroVelocityNoteOnAsNoteOff : Obligations.ZeroVelocityNoteOnAsNoteOff := by
  intro c n k x s hdec hvel0
  obtain ⟨hk, hlen, hclass⟩ : VoiceRow .noteOn 0x9#4 3#2 := by decide
  refine exec_data_only_emits (hdec ▸ dataByte_voice_three hk hlen ..) (route_of_routeVoice_self (hclass n) ?_)
  rw [routeVoice_noteOn (typeNibble_append _ n), noteOnHandler_of_noteOff _ rfl]
  exact (congrArg Params.vel0IsNoteOff (State.setDec_params ..)).trans hvel0

/-- Settles O22: the passed message runs `PW_UPDATE` on its 14-bit value. -/
theorem pitchWheelUpdatesOffsetAndOutput : Obligations.PitchWheelUpdatesOffsetAndOutput := by
  intro c n lsb x msb s off hdec hfilter hoff
  obtain ⟨hk, hlen, hclass⟩ : VoiceRow .pitchWheel 0xE#4 3#2 := by decide
  rw [exec_data_completed (hdec ▸ dataByte_voice_three hk hlen ..), route_of_passed, routeVoice_pitchWheel, hoff]
  · cases c <;> rfl
  · exact typeNibble_append _ n
  · exact hclass n
  · exact (pass_emitted_iff ..).2 (hfilter.imp_left (congrArg BitVec.toNat))

/-! ## The clock handlers (41_router.md R160, R161) -/

theorem eq_chanCode_iff (x : BitVec 2) (c : Chan) : x = c.code ↔ x.toNat = c.index := by revert x; cases c <;> decide

/-- A real-time byte is emitted and routed; its decoder takes no part (40_decoder.md R126). -/
theorem realTimeEvent_routed {b : Byte} (hb : classOf b = .realTime) (c : Chan) (s : State) :
    realTimeEvent c b s = ({ s with out := { Outputs.quiet with msg := some ⟨c, b, 0#7, 0#7, 1#2⟩ } } : State).routeRealTime
      ⟨c, b, 0#7, 0#7, 1#2⟩ :=
  route_of_realTime hb

theorem routeRealTime_timingClock (s : State) {m : Msg} (hm : m.status = 0xF8#8) :
    s.routeRealTime m =
      { s with beatCount := if s.cfg.clkSrc.toNat = m.chan.index then nextBeat s.beatCount else s.beatCount } := by
  have hstart : m.status ≠ 0xFA#8 := by rw [hm]; decide
  by_cases hsrc : s.cfg.clkSrc = m.chan.code
  · rw [if_pos ((eq_chanCode_iff ..).1 hsrc)]
    exact if_pos ⟨hm, hsrc⟩
  · rw [if_neg (mt (eq_chanCode_iff ..).2 hsrc)]
    exact (if_neg fun h => hsrc h.2).trans (if_neg fun h => hstart h.1)

theorem routeRealTime_start (s : State) {m : Msg} (hm : m.status = 0xFA#8) :
    s.routeRealTime m = { s with beatCount := if s.cfg.clkSrc.toNat = m.chan.index then 0#5 else s.beatCount } := by
  have hclock : m.status ≠ 0xF8#8 := by rw [hm]; decide
  refine (if_neg fun h => hclock h.1).trans ?_
  by_cases hsrc : s.cfg.clkSrc = m.chan.code
  · rw [if_pos ((eq_chanCode_iff ..).1 hsrc)]
    exact if_pos ⟨hm, hsrc⟩
  · rw [if_neg (mt (eq_chanCode_iff ..).2 hsrc)]
    exact if_neg fun h => hsrc h.2

/-- Settles O15: the timing clock is the byte 0xF8. -/
theorem timingClockCountsModulo24 : Obligations.TimingClockCountsModulo24 := by
  intro c s
  rw [exec_timingClock, realTimeEvent_routed (by decide), routeRealTime_timingClock _ rfl]
  rfl

/-- Settles O16: the start byte is 0xFA. -/
theorem startClearsBeatCount : Obligations.StartClearsBeatCount := by
  intro c s
  rw [exec_start, realTimeEvent_routed (by decide), routeRealTime_start _ rfl]

end Sys2Proof.Proofs.Routing
end

section
/-! PROOFS. The engine's arithmetic (42_engine.md R182, R192..R197): the conversion to a sample, the pitch-wheel offset and the
glide duration, in the library's floors. The one fact behind the conversion's order is that rounding half away is monotone. -/

namespace Sys2Proof.Proofs.Conversion

open Sys2Proof.Machine Sys2Proof.Proofs.Scope Sys2Proof.Proofs.Memory

/-! ## Rounding is monotone -/

theorem roundHalfAway_nonneg {x : Rat} (hx : 0 ≤ x) : 0 ≤ roundHalfAway x := by
  rw [roundHalfAway_of_nonneg hx]
  exact Int.floor_nonneg.2 (by linarith)

theorem roundHalfAway_nonpos {x : Rat} (hx : x < 0) : roundHalfAway x ≤ 0 := by
  rw [roundHalfAway_of_neg hx, neg_nonpos]
  exact roundHalfAway_nonneg (neg_nonneg.2 hx.le)

theorem roundHalfAway_mono_of_nonneg {x y : Rat} (hx : 0 ≤ x) (h : x ≤ y) : roundHalfAway x ≤ roundHalfAway y := by
  rw [roundHalfAway_of_nonneg hx, roundHalfAway_of_nonneg (hx.trans h)]
  exact Int.floor_mono (by linarith)

/-- On either side of zero by the floor, across zero by the sign. -/
theorem roundHalfAway_mono : Monotone roundHalfAway := by
  intro x y h
  obtain hx | hx := lt_or_ge x 0
  · obtain hy | hy := lt_or_ge y 0
    · rw [roundHalfAway_of_neg hx, roundHalfAway_of_neg hy, neg_le_neg_iff]
      exact roundHalfAway_mono_of_nonneg (neg_nonneg.2 hy.le) (neg_le_neg h)
    · exact (roundHalfAway_nonpos hx).trans (roundHalfAway_nonneg hy)
  · exact roundHalfAway_mono_of_nonneg hx h

theorem clampInt_mono (lo hi : Int) : Monotone (clampInt lo hi) :=
  fun _ _ h => min_le_min_left hi (max_le_max_left lo h)

/-! ## `CONVERT` (42_engine.md R193) -/

/-- Settles O52: the twelve bits hold the clamped value whole. -/
theorem convertClampsRoundedRaw : Obligations.ConvertClampsRoundedRaw :=
  fun p x off => ⟨convert_toNat p x off, Nat.le_of_lt_succ (convert p x off).isLt⟩

theorem rawOutput_mono {p : Params} (hp : 0 < p.vphn) {x y a b : Rat} (hnote : x ≤ y) (hoff : a ≤ b) :
    rawOutput p x a ≤ rawOutput p y b := by
  have hscaled : (x - p.c0Ref) * p.vphn ≤ (y - p.c0Ref) * p.vphn :=
    mul_le_mul_of_nonneg_right (sub_le_sub_right hnote _) hp.le
  simp only [rawOutput]
  linarith

/-- Settles O53: the raw value, the rounding and the clamp are each monotone. -/
theorem convertMonotone : Obligations.ConvertMonotone := by
  intro p x y a b hp hnote hoff
  have hsample := clampInt_mono 0 4095 (roundHalfAway_mono (rawOutput_mono hp hnote hoff))
  rw [← convert_toNat, ← convert_toNat] at hsample
  exact_mod_cast hsample

/-- A value that rounds inside the range of a sample is converted without clamping. -/
theorem convert_eq_ofNat {p : Params} {x off : Rat} {k : Nat} (hk : k ≤ 4095)
    (hround : roundHalfAway (rawOutput p x off) = k) : convert p x off = BitVec.ofNat 12 k := by
  have hsample := convert_toNat p x off
  rw [hround] at hsample
  apply BitVec.eq_of_toNat_eq
  rw [BitVec.toNat_ofNat, Nat.mod_eq_of_lt (by omega)]
  simp only [clampInt] at hsample
  omega

/-! ## `OUT_NOTE` (42_engine.md R192) -/

theorem truncRat_of_nonneg {x : Rat} (hx : 0 ≤ x) : truncRat x = ⌊x⌋ := if_neg (not_lt.2 hx)

/-- Below zero the integer part is the mirror image of the one above it. -/
theorem truncRat_of_neg {x : Rat} (hx : x < 0) : truncRat x = -truncRat (-x) := by
  rw [truncRat_of_nonneg (neg_nonneg.2 hx.le)]
  exact if_pos hx

theorem truncRat_intCast (n : Int) : truncRat n = n := by
  obtain hn | hn := lt_or_ge (n : Rat) 0
  · rw [truncRat_of_neg hn, truncRat_of_nonneg (neg_nonneg.2 hn.le), ← Int.cast_neg, Int.floor_intCast, neg_neg]
  · rw [truncRat_of_nonneg hn, Int.floor_intCast]

@[simp] theorem outNote_portamento (x : Rat) : outNote 0#1 x = x := if_pos rfl

@[simp] theorem outNote_glissando (x : Rat) : outNote 1#1 x = truncRat x := if_neg (by decide)

/-- `n` is `x` rounded toward zero: no farther from zero than `x`, by less than one, and not on the other side. -/
def IsIntegerPart (x : Rat) (n : Int) : Prop :=
  |(n : Rat)| ≤ |x| ∧ |x| < |(n : Rat)| + 1 ∧ 0 ≤ (n : Rat) * x

/-- Distance from zero and the side of zero do not see a change of both signs. -/
theorem isIntegerPart_neg_iff (x : Rat) (n : Int) : IsIntegerPart (-x) (-n) ↔ IsIntegerPart x n := by
  rw [IsIntegerPart, IsIntegerPart, Int.cast_neg, abs_neg, abs_neg, neg_mul_neg]

theorem isIntegerPart_floor {x : Rat} (hx : 0 ≤ x) : IsIntegerPart x ⌊x⌋ := by
  have hfloor : (0 : Rat) ≤ (⌊x⌋ : Rat) := by exact_mod_cast Int.floor_nonneg.2 hx
  rw [IsIntegerPart, abs_of_nonneg hx, abs_of_nonneg hfloor]
  exact ⟨Int.floor_le x, Int.lt_floor_add_one x, mul_nonneg hfloor hx⟩

theorem isIntegerPart_truncRat (x : Rat) : IsIntegerPart x (truncRat x) := by
  obtain hx | hx := lt_or_ge x 0
  · rw [truncRat_of_neg hx, ← isIntegerPart_neg_iff, neg_neg, truncRat_of_nonneg (neg_nonneg.2 hx.le)]
    exact isIntegerPart_floor (neg_nonneg.2 hx.le)
  · rw [truncRat_of_nonneg hx]
    exact isIntegerPart_floor hx

/-- Settles O54: Glissando converts the integer part, which is the floor above zero and a whole note itself. -/
theorem glissandoFollowsIntegerPart : Obligations.GlissandoFollowsIntegerPart := by
  refine ⟨fun p x y off hx hy hfloor => ?_, fun p n off => ?_, outNote_portamento,
    fun x => ⟨truncRat x, outNote_glissando x, isIntegerPart_truncRat x⟩⟩
  · rw [outNote_glissando, outNote_glissando, truncRat_of_nonneg hx, truncRat_of_nonneg hy, hfloor]
  · rw [outNote_glissando, outNote_portamento, truncRat_intCast]

/-! ## The pitch wheel (42_engine.md R196, R197) -/

theorem pitchOffset_centre (p : Params) (range : BitVec 5) : pitchOffset p range 8192 = 0 := by
  simp [pitchOffset]

theorem pitchOffset_range_zero (p : Params) (v : Nat) : pitchOffset p 0#5 v = 0 := by
  simp [pitchOffset]

theorem pitchOffset_bottom (p : Params) (range : BitVec 5) : pitchOffset p range 0 = -(range.toNat : Rat) * p.vphn := by
  rw [pitchOffset, Nat.cast_zero]
  ring

theorem pitchOffset_top (p : Params) (range : BitVec 5) :
    pitchOffset p range 16383 = 8191 / 8192 * (range.toNat : Rat) * p.vphn := by
  rw [pitchOffset, Nat.cast_ofNat]
  ring

/-- Settles O55: the wheel value at its centre, its bottom and its top, and the range of no half-notes. -/
theorem pitchOffsetScale : Obligations.PitchOffsetScale :=
  fun p range v => ⟨pitchOffset_centre p range, pitchOffset_range_zero p v, pitchOffset_bottom p range, pitchOffset_top p range⟩

/-- Settles O56: the corners by the scale, the values around the centre by the formula; in the profile note 60 has the raw value
2304, to which the offset adds. -/
theorem pitchWheelProfileValues : Obligations.PitchWheelProfileValues := by
  intro p hc0 hvphn hdac
  have hraw (off : Rat) : rawOutput p 60 off = 2304 + off := by
    rw [rawOutput, hc0, hvphn, hdac]; ring
  have hsample (off : Rat) (k : Nat) (hk : k ≤ 4095) (hpos : 0 ≤ 2304 + off) (hfloor : ⌊2304 + off + 1 / 2⌋ = (k : Int)) :
      convert p 60 off = BitVec.ofNat 12 k :=
    convert_eq_ofNat hk (by rw [hraw, roundHalfAway_of_nonneg hpos, hfloor])
  refine ⟨pitchOffset_centre p _, ?top, ?bottom, ?above, ?below, ?centre, ?_, ?_, ?_, ?_⟩
  case top => rw [pitchOffset_top, hvphn]; norm_num
  case bottom => rw [pitchOffset_bottom, hvphn]; norm_num
  case above => rw [pitchOffset, hvphn]; norm_num
  case below => rw [pitchOffset, hvphn]; norm_num
  case centre => exact hsample _ 2304 (by decide) (by norm_num) (by norm_num)
  · exact hsample _ 3072 (by decide) (by norm_num) (by norm_num)
  · exact hsample _ 1536 (by decide) (by norm_num) (by norm_num)
  · exact hsample _ 2306 (by decide) (by norm_num) (by norm_num)
  · exact hsample _ 2303 (by decide) (by norm_num) (by norm_num)

/-! ## The glide duration (42_engine.md R182) -/

theorem glideDuration_eq_floor (t : RateTable) (amt : BitVec 16) (delta : Rat) :
    glideDuration t amt delta = ⌊delta * 100 * 1000000 / (rateROM t (glideIndex amt) : Rat)⌋₊ :=
  ratFloor_toNat_eq _

theorem glideDuration_zero (t : RateTable) (amt : BitVec 16) : glideDuration t amt 0 = 0 := by
  simp [glideDuration_eq_floor]

/-- The clamp gives a register value below the table its first index. -/
theorem glideIndex_of_nonpos {amt : BitVec 16} (h : amt.toInt ≤ 0) : glideIndex amt = 0 := by
  have hval := glideIndex_val amt
  simp only [clampInt] at hval
  exact Fin.ext (by simp only [Fin.val_zero]; omega)

/-- The clamp gives a register value above the table its last index. -/
theorem glideIndex_of_ge {amt : BitVec 16} (h : 127 ≤ amt.toInt) : glideIndex amt = Fin.last 127 := by
  have hval := glideIndex_val amt
  simp only [clampInt] at hval
  exact Fin.ext (by simp only [Fin.val_last]; omega)

/-- The table's slowest rate stands first (00_scope.md R7). -/
theorem rateROM_zero (t : RateTable) : rateROM t 0 = 65535 := by
  obtain ⟨-, -, hhead, -, -⟩ := rateTable_facts t
  rw [List.head?_eq_getElem?] at hhead
  exact Option.some.inj ((getElem?_rateROM t 0).symm.trans hhead)

/-- The table's last entry, by decision D22. -/
theorem rateROM_last (t : RateTable) : rateROM t (Fin.last 127) = 100 := by
  obtain ⟨hlength, -, -, hlast, -⟩ := rateTable_facts t
  rw [List.getLast?_eq_getElem?, hlength] at hlast
  exact Option.some.inj ((getElem?_rateROM t (Fin.last 127)).symm.trans hlast)

theorem glideDuration_of_nonpos {amt : BitVec 16} (h : amt.toInt ≤ 0) (t : RateTable) (delta : Rat) :
    glideDuration t amt delta = ⌊delta * 100000000 / 65535⌋₊ := by
  have hscale : delta * 100 * 1000000 / ((65535 : Nat) : Rat) = delta * 100000000 / 65535 := by push_cast; ring
  rw [glideDuration_eq_floor, glideIndex_of_nonpos h, rateROM_zero, hscale]

theorem glideDuration_of_ge {amt : BitVec 16} (h : 127 ≤ amt.toInt) (t : RateTable) (delta : Rat) :
    glideDuration t amt delta = ⌊delta * 1000000⌋₊ := by
  have hscale : delta * 100 * 1000000 / ((100 : Nat) : Rat) = delta * 1000000 := by push_cast; ring
  rw [glideDuration_eq_floor, glideIndex_of_ge h, rateROM_last, hscale]

/-- Settles O57: the entry is the one at the clamped amount; the two ends of the table have known entries. -/
theorem glideDurationModel : Obligations.GlideDurationModel := by
  intro t amt delta _
  have hfirst : (0#16).toInt ≤ 0 := by decide
  have hlast : 127 ≤ (127#16).toInt := by decide
  refine ⟨fun i hi => ?_, fun h => glideDuration_of_nonpos h t delta, fun h => glideDuration_of_ge h t delta,
    glideDuration_zero t amt, ?_, ?_, ?_⟩
  · have hindex : (glideIndex amt).val = i := by exact_mod_cast (glideIndex_val amt).trans hi.symm
    obtain ⟨hpos, -⟩ := rateROM_range t (glideIndex amt)
    exact ⟨_, hindex ▸ getElem?_rateROM t _, hpos, glideDuration_eq_floor t amt delta⟩
  · rw [glideDuration_of_nonpos hfirst]; norm_num
  · rw [glideDuration_of_nonpos hfirst]; norm_num
  · rw [glideDuration_of_ge hlast]; norm_num

end Sys2Proof.Proofs.Conversion
end

section
/-! PROOFS. A glide (42_engine.md R181, R190, R191, R202). Under the engine's invariants a tick puts the note at the fraction
`glideProgress` of the way from `begin_note` to `end_note`; where a tick stands in the glide is then a fact about that fraction.
Before it, what a tick does to the state; last, the Note-On that starts a glide. -/

namespace Sys2Proof.Proofs.Glide

open Sys2Proof.Machine Sys2Proof.Proofs.Effects Sys2Proof.Proofs.Invariants Sys2Proof.Proofs.Decoding Sys2Proof.Proofs.Routing

/-! ## `TICK` (42_engine.md R190) -/

theorem tickNote_of_past {s : State} (h : s.eng.endTick < s.now) : tickNote s = s.eng.endNote := if_pos h

theorem tickNote_of_not_past {s : State} (h : s.now ≤ s.eng.endTick) :
    tickNote s = s.eng.beginNote + ((s.now : Rat) - (s.eng.beginTick : Rat)) * s.eng.rateFactor := if_neg (not_lt.2 h)

/-- Past the end a tick writes the target and its sample, and reads no time. -/
theorem glideTick_of_past {s : State} (h : s.eng.endTick < s.now) :
    exec .glideTick s = .next { s with
      out := Outputs.quiet
      eng := { s.eng with
        currentNote := s.eng.endNote
        outputValue := recompute s s.eng.endNote s.eng.pitchWheelOffset } } := by
  rw [exec_glideTick, State.tick, tickNote_of_past (s := s.beginEvent) h]
  rfl

/-- Settles O48: past the end every tick writes the same note and sample again. -/
theorem tickIdempotentAfterGlide : Obligations.TickIdempotentAfterGlide := by
  intro s t hpast ht
  rw [glideTick_of_past hpast] at ht
  cases ht
  exact ⟨rfl, glideTick_of_past hpast, fun later hlater => glideTick_of_past (lt_of_lt_of_le hpast hlater)⟩

/-! ## How far a glide has come -/

/-- The fraction of its duration that a glide has run; 1 past its end. -/
def glideProgress (s : State) : Rat :=
  if s.eng.endTick < s.now then 1
  else ((s.now : Rat) - (s.eng.beginTick : Rat)) / ((s.eng.endTick : Rat) - (s.eng.beginTick : Rat))

theorem glideProgress_of_past {s : State} (h : s.eng.endTick < s.now) : glideProgress s = 1 := if_pos h

theorem glideProgress_of_not_past {s : State} (h : s.now ≤ s.eng.endTick) :
    glideProgress s = ((s.now : Rat) - (s.eng.beginTick : Rat)) / ((s.eng.endTick : Rat) - (s.eng.beginTick : Rat)) :=
  if_neg (not_lt.2 h)

/-- The invariants say what `rate_factor` is, and so where the tick puts the note. A glide without a duration is at its target
already. -/
theorem tickNote_eq_progress {s : State} (h : EngineInv s) :
    tickNote s = s.eng.beginNote + glideProgress s * (s.eng.endNote - s.eng.beginNote) := by
  obtain ⟨hticks, hrate, hzero, -⟩ := h
  obtain hpast | hnow := lt_or_ge s.eng.endTick s.now
  · rw [tickNote_of_past hpast, glideProgress_of_past hpast]; ring
  · rw [tickNote_of_not_past hnow, glideProgress_of_not_past hnow]
    obtain hlt | heq := Nat.lt_or_eq_of_le hticks
    · rw [hrate hlt, mul_comm_div]
    · obtain ⟨hr, hnotes⟩ := hzero heq.symm
      rw [hr, hnotes, sub_self, mul_zero, mul_zero]

theorem glideProgress_of_begin {s : State} (hticks : s.eng.beginTick ≤ s.eng.endTick) (h : s.now = s.eng.beginTick) :
    glideProgress s = 0 := by
  rw [glideProgress_of_not_past (h.trans_le hticks), h, sub_self, zero_div]

theorem glideProgress_of_end {s : State} (hlt : s.eng.beginTick < s.eng.endTick) (h : s.eng.endTick ≤ s.now) :
    glideProgress s = 1 := by
  obtain hpast | hnow := lt_or_ge s.eng.endTick s.now
  · exact glideProgress_of_past hpast
  · have hspan : (s.eng.endTick : Rat) - (s.eng.beginTick : Rat) ≠ 0 := sub_ne_zero.2 (by exact_mod_cast hlt.ne')
    rw [glideProgress_of_not_past hnow, le_antisymm hnow h, div_self hspan]

theorem glideProgress_lt_one {s : State} (hbegun : s.eng.beginTick ≤ s.now) (h : s.now < s.eng.endTick) :
    glideProgress s < 1 := by
  have hspan : (0 : Rat) < (s.eng.endTick : Rat) - (s.eng.beginTick : Rat) := by
    rw [sub_pos]; exact_mod_cast lt_of_le_of_lt hbegun h
  rw [glideProgress_of_not_past h.le, div_lt_one hspan]
  exact sub_lt_sub_right (by exact_mod_cast h) _

theorem glideProgress_le_one {s : State} (h : s.eng.beginTick ≤ s.eng.endTick) : glideProgress s ≤ 1 := by
  obtain hpast | hnow := lt_or_ge s.eng.endTick s.now
  · exact (glideProgress_of_past hpast).le
  · have hspan : (0 : Rat) ≤ (s.eng.endTick : Rat) - (s.eng.beginTick : Rat) := by rw [sub_nonneg]; exact_mod_cast h
    rw [glideProgress_of_not_past hnow]
    exact div_le_one_of_le₀ (sub_le_sub_right (by exact_mod_cast hnow) _) hspan

/-- Time moves a glide forward only. -/
theorem glideProgress_mono {s : State} (hticks : s.eng.beginTick ≤ s.eng.endTick) {later : Nat} (h : s.now ≤ later) :
    glideProgress s ≤ glideProgress { s with now := later } := by
  obtain hpast | hinside := lt_or_ge s.eng.endTick later
  · rw [glideProgress_of_past (s := { s with now := later }) hpast]
    exact glideProgress_le_one hticks
  · have hspan : (0 : Rat) ≤ (s.eng.endTick : Rat) - (s.eng.beginTick : Rat) := by rw [sub_nonneg]; exact_mod_cast hticks
    rw [glideProgress_of_not_past (h.trans hinside), glideProgress_of_not_past (s := { s with now := later }) hinside]
    exact div_le_div_of_nonneg_right (sub_le_sub_right (by exact_mod_cast h) _) hspan

/-! ## Where a tick puts the note (42_engine.md R191, R202) -/

/-- A tick at the end or later puts the note on the target. -/
theorem tickNote_of_end {s : State} (hs : EngineInv s) (h : s.eng.endTick ≤ s.now) : tickNote s = s.eng.endNote := by
  rw [tickNote_eq_progress hs]
  obtain ⟨hticks, -, hzero, -⟩ := hs
  obtain hlt | heq := Nat.lt_or_eq_of_le hticks
  · rw [glideProgress_of_end hlt h]; ring
  · obtain ⟨-, hnotes⟩ := hzero heq.symm
    rw [hnotes, sub_self, mul_zero, add_zero]

theorem tickNote_of_begin {s : State} (hs : EngineInv s) (h : s.now = s.eng.beginTick) : tickNote s = s.eng.beginNote := by
  rw [tickNote_eq_progress hs]
  obtain ⟨hticks, -⟩ := hs
  rw [glideProgress_of_begin hticks h, zero_mul, add_zero]

/-- Inside the glide a fraction of the way is left. -/
theorem tickNote_ne_endNote {s : State} (hs : EngineInv s) (h : s.now < s.eng.endTick)
    (hnotes : s.eng.beginNote ≠ s.eng.endNote) : tickNote s ≠ s.eng.endNote := by
  have hnote := tickNote_eq_progress hs
  obtain ⟨-, -, -, hbegun, -⟩ := hs
  have hleft : (1 - glideProgress s) * (s.eng.endNote - s.eng.beginNote) ≠ 0 :=
    mul_ne_zero (sub_pos.2 (glideProgress_lt_one hbegun h)).ne' (sub_ne_zero.2 hnotes.symm)
  intro hend
  exact hleft (by linarith)

/-- A greater fraction of the way from `a` to `b` is nearer to `b`, and not past it. -/
theorem between_of_fractions {a b f g : Rat} (hfg : f ≤ g) (hg : g ≤ 1) :
    Between (a + f * (b - a)) b (a + g * (b - a)) := by
  have hsplit : a + g * (b - a) - (a + f * (b - a)) = (g - f) * (b - a) := by ring
  have hleft : b - (a + g * (b - a)) = (1 - g) * (b - a) := by ring
  have hstep : 0 ≤ g - f := sub_nonneg.2 hfg
  have hrest : 0 ≤ 1 - g := sub_nonneg.2 hg
  obtain hab | hab := le_total a b
  · have h1 := mul_nonneg hstep (sub_nonneg.2 hab)
    have h2 := mul_nonneg hrest (sub_nonneg.2 hab)
    exact ⟨(min_le_left _ _).trans (by linarith), le_max_of_le_right (by linarith)⟩
  · have h1 := mul_nonpos_of_nonneg_of_nonpos hstep (sub_nonpos.2 hab)
    have h2 := mul_nonpos_of_nonneg_of_nonpos hrest (sub_nonpos.2 hab)
    exact ⟨(min_le_right _ _).trans (by linarith), le_max_of_le_left (by linarith)⟩

theorem engineInv_later {s : State} (hs : EngineInv s) {later : Nat} (h : s.now ≤ later) :
    EngineInv { s with now := later } := by
  obtain ⟨d, rfl⟩ := Nat.exists_eq_add_of_le h
  exact engineInv_advance hs d

/-- The note of a later tick lies on what is left of the way. -/
theorem tickNote_between_later {s : State} (hs : EngineInv s) {later : Nat} (h : s.now ≤ later) :
    Between (tickNote s) s.eng.endNote (tickNote { s with now := later }) := by
  rw [tickNote_eq_progress hs, tickNote_eq_progress (engineInv_later hs h)]
  obtain ⟨hticks, -⟩ := hs
  exact between_of_fractions (glideProgress_mono hticks h) (glideProgress_le_one hticks)

/-! ## The event `GLIDE_TICK` -/

/-- Settles O27: the tick is the formula; its two corners are progress 1 and progress 0. -/
theorem glideTickInterpolatesAndRecomputes : Obligations.GlideTickInterpolatesAndRecomputes := by
  rintro s x rfl
  exact ⟨rfl, fun hs hend => tickNote_of_end hs hend.ge, fun hs hbegin => tickNote_of_begin hs hbegin⟩

/-- Settles O49: the first tick stays on the way, the later one on the rest of it. -/
theorem tickMovesTowardTargetWithoutPassing : Obligations.TickMovesTowardTargetWithoutPassing := by
  intro s t t' later hs hlater ht ht'
  cases ht
  cases ht'
  exact ⟨tickNote_between hs, tickNote_between_later hs hlater⟩

theorem phase_eq_idle_iff (e : Engine) : e.phase = .idle ↔ e.currentNote = e.endNote := by
  unfold Engine.phase
  split_ifs with h <;> simp [h]

theorem phase_eq_gliding_iff (e : Engine) : e.phase = .gliding ↔ e.currentNote ≠ e.endNote := by
  unfold Engine.phase
  split_ifs with h <;> simp [h]

/-- Settles O50: the phase says whether the note is on the target. -/
theorem tickReachesIdlePhase : Obligations.TickReachesIdlePhase := by
  intro s t hs ht
  cases ht
  exact ⟨fun hend => (phase_eq_idle_iff _).2 (tickNote_of_end hs hend),
    fun hinside hnotes => (phase_eq_gliding_iff _).2 (tickNote_ne_endNote hs hinside hnotes)⟩

/-! ## The event that starts a glide (41_router.md R151, 42_engine.md R181) -/

theorem noteOnHandler_of_noteOn {s : State} {m : Msg} (h : ¬(s.params.vel0IsNoteOff = true ∧ m.data2 = 0#7)) :
    s.noteOnHandler m = s.setTarget m.data1 :=
  if_neg h

theorem targetDuration_eq_floor (s : State) (n : Data7) :
    targetDuration s n = ⌊|(n.toNat : Rat) - s.eng.currentNote| * 100 * 1000000 /
      (rateROM s.params.rateTable (glideIndex s.cfg.glideAmt) : Rat)⌋₊ := by
  rw [targetDuration, glideDuration, ratFloor_toNat_eq, absRat_eq]

/-- Settles O20: the passed message runs `SET_TARGET` on its note number. -/
theorem noteOnSetsTarget : Obligations.NoteOnSetsTarget := by
  intro c n k x v s dur hdec hfilter hvel hdur
  rw [← targetDuration_eq_floor] at hdur
  obtain ⟨hk, hlen, hclass⟩ : VoiceRow .noteOn 0x9#4 3#2 := by decide
  rw [exec_data_completed (hdec ▸ dataByte_voice_three hk hlen ..), route_of_passed, routeVoice_noteOn,
    noteOnHandler_of_noteOn, hdur]
  · cases c <;> rfl
  · rwa [State.setDec_params]
  · exact typeNibble_append _ n
  · exact hclass n
  · exact (pass_emitted_iff ..).2 (hfilter.imp_left (congrArg BitVec.toNat))

end Sys2Proof.Proofs.Glide
end

section
/-! PROOFS. `FLUSH` (42_engine.md R200, 70_reset_and_hazards.md R295): the event in its two cases, and from them what two flushes do
with other events between. -/

namespace Sys2Proof.Proofs.Flush

open Sys2Proof.Machine Sys2Proof.Proofs.Registers

/-- The output is the last sample written: nothing to write. -/
theorem flushTick_of_unchanged {s : State} (h : s.eng.lastWritten = some s.eng.outputValue) (ok : Bool) :
    exec (.flushTick ok) s = .next { s with out := Outputs.quiet } :=
  (exec_flushTick ok s).trans (congrArg _ (if_pos h))

theorem flushTick_of_changed {s : State} (h : s.eng.lastWritten ≠ some s.eng.outputValue) (ok : Bool) :
    exec (.flushTick ok) s = .next { s with
      out := { Outputs.quiet with dac := some s.eng.outputValue }
      eng := { s.eng with lastWritten := if ok then some s.eng.outputValue else s.eng.lastWritten } } := by
  refine (exec_flushTick ok s).trans (congrArg _ ((if_neg h).trans ?_))
  cases ok <;> rfl

/-- Settles O28: the two cases of R200. -/
theorem flushWritesOnChange : Obligations.FlushWritesOnChange :=
  fun _ ok => ⟨fun h => flushTick_of_unchanged h ok, fun h => flushTick_of_changed h ok⟩

/-! ## What one flush drives and records -/

theorem flushTick_dac {s u : State} {ok : Bool} (h : exec (.flushTick ok) s = .next u) :
    (s.eng.lastWritten = some s.eng.outputValue → u.out.dac = none) ∧
    (s.eng.lastWritten ≠ some s.eng.outputValue → u.out.dac = some s.eng.outputValue) := by
  constructor <;> intro hlast
  · rw [flushTick_of_unchanged hlast] at h; cases h; rfl
  · rw [flushTick_of_changed hlast] at h; cases h; rfl

/-- After a success the output is the last sample written, whether the flush wrote it or found it so. -/
theorem flushTick_succeeded_eng {s t : State} (h : exec (.flushTick true) s = .next t) :
    t.eng = { s.eng with lastWritten := some s.eng.outputValue } := by
  by_cases hlast : s.eng.lastWritten = some s.eng.outputValue
  · rw [flushTick_of_unchanged hlast] at h; cases h; rw [← hlast]
  · rw [flushTick_of_changed hlast] at h; cases h; rfl

theorem flushTick_failed_eng {s t : State} (h : exec (.flushTick false) s = .next t) : t.eng = s.eng := by
  by_cases hlast : s.eng.lastWritten = some s.eng.outputValue
  · rw [flushTick_of_unchanged hlast] at h; cases h; rfl
  · rw [flushTick_of_changed hlast] at h; cases h; rfl

/-- Only a successful flush and a `RESET` write `last_written` (10_state.md R39). -/
theorem lastWritten_unchanged {i : Instr} {s t : State} (hflush : i ≠ .flushTick true) (hreset : i ≠ .reset)
    (h : exec i s = .next t) : t.eng.lastWritten = s.eng.lastWritten := by
  by_cases hfailed : i = .flushTick false
  · rw [hfailed] at h
    rw [flushTick_failed_eng h]
  · obtain ⟨-, -, -, hlast, -⟩ := engineRegistersKeepTheirWriters i s t h hreset
    exact hlast fun ok => by cases ok <;> assumption

/-- Settles O60: the second flush compares its output with what the first one left recorded. -/
theorem flushRepeatsOnlyAfterFailure : Obligations.FlushRepeatsOnlyAfterFailure := by
  refine ⟨fun i s t => lastWritten_unchanged, fun s t w u ok ht hw hu => ?_, fun s t w u ok ht hw hu => ?_⟩ <;>
    obtain ⟨hsame, hnew⟩ := flushTick_dac hu
  · have heng := flushTick_succeeded_eng ht
    rw [heng] at hw
    rw [hw] at hsame hnew
    exact ⟨heng, fun hout => hsame (congrArg some hout.symm), fun hout => hnew fun h => hout (Option.some.inj h).symm⟩
  · have heng := flushTick_failed_eng ht
    rw [heng] at hw
    rw [hw] at hsame hnew
    exact ⟨heng, hsame, hnew⟩

end Sys2Proof.Proofs.Flush
end

section
/-! PROOFS. The configuration port, `REINIT` and `TIME` (43_config_time.md R220..R226). A register holds every word within its bound
whole, so a read of it, which extends by zeros, gives an accepted word back. -/

namespace Sys2Proof.Proofs.ConfigTime

open Sys2Proof.Machine Sys2Proof.Proofs.Decoding

/-! ## `CFG_WRITE` (R220) -/

theorem cfgWrite_of_accepted {s : State} {a : CfgAddr} {w : CfgWord} {r : CfgRegs} (h : cfgWritten s.cfg a w = some r) :
    exec (.cfgWrite a w) s = .next { s with out := { Outputs.quiet with cfgAccepted := some true }, cfg := r } := by
  rw [exec_cfgWrite, State.cfgWriteOp, State.beginEvent_cfg, h]
  rfl

theorem cfgWrite_of_rejected {s : State} {a : CfgAddr} {w : CfgWord} (h : cfgWritten s.cfg a w = none) :
    exec (.cfgWrite a w) s = .next { s with out := { Outputs.quiet with cfgAccepted := some false } } := by
  rw [exec_cfgWrite, State.cfgWriteOp, State.beginEvent_cfg, h]
  rfl

/-- A write to a register with the bound `n` and, when accepted, the configuration `r`. -/
theorem cfgWrite_of_bound {s : State} {a : CfgAddr} {w : CfgWord} {n : Nat} {r : CfgRegs}
    (h : cfgWritten s.cfg a w = if w.toNat ≤ n then some r else none) :
    exec (.cfgWrite a w) s = .next (if w.toNat ≤ n then
      { s with out := { Outputs.quiet with cfgAccepted := some true }, cfg := r }
      else { s with out := { Outputs.quiet with cfgAccepted := some false } }) := by
  by_cases hw : w.toNat ≤ n
  · rw [if_pos hw] at h ⊢; exact cfgWrite_of_accepted h
  · rw [if_neg hw] at h ⊢; exact cfgWrite_of_rejected h

/-- Settles O29: four registers have a bound, `GLIDE_AMT` takes every word, and the last two addresses have no register. -/
theorem cfgWriteAppliedWholeOrNotAtAll : Obligations.CfgWriteAppliedWholeOrNotAtAll := by
  rintro s w yes no rfl rfl
  simp only [BitVec.ofNat_toNat]
  exact ⟨cfgWrite_of_bound rfl, cfgWrite_of_bound rfl, cfgWrite_of_bound rfl, cfgWrite_of_bound rfl,
    cfgWrite_of_accepted rfl, cfgWrite_of_bound rfl, cfgWrite_of_rejected rfl, cfgWrite_of_rejected rfl⟩

/-! ## `CFG_READ` (R221) -/

theorem cfgRead_eq (a : CfgAddr) (s : State) :
    exec (.cfgRead a) s = .next { s with out := { Outputs.quiet with cfgRdata := some (cfgReadWord s.cfg a) } } := rfl

/-- Settles O30: each register is no wider than the port, so extending it by zeros keeps its value. -/
theorem cfgReadDrivesRegister : Obligations.CfgReadDrivesRegister := by
  refine fun s a => ⟨cfgReadWord s.cfg a, cfgRead_eq a s, ?_, ?_, ?_, ?_, ?_, ?_, ?_⟩
  case refine_1 => rintro rfl; exact BitVec.toNat_setWidth_of_le (by decide)
  case refine_2 => rintro rfl; exact BitVec.toNat_setWidth_of_le (by decide)
  case refine_3 => rintro rfl; exact BitVec.toNat_setWidth_of_le (by decide)
  case refine_4 => rintro rfl; exact BitVec.toNat_setWidth_of_le (by decide)
  case refine_5 => rintro rfl; rfl
  case refine_6 => rintro rfl; exact BitVec.toNat_setWidth_of_le (by decide)
  case refine_7 => rintro (rfl | rfl) <;> rfl

/-! ## A read after a write -/

/-- A word that fits in `k` bits survives a register of that width. -/
theorem setWidth_setWidth_of_lt {w : CfgWord} {k : Nat} (h : w.toNat < 2 ^ k) : (w.setWidth k).setWidth 16 = w := by
  apply BitVec.eq_of_toNat_eq
  rw [BitVec.toNat_setWidth, BitVec.toNat_setWidth, Nat.mod_eq_of_lt h, Nat.mod_eq_of_lt w.isLt]

/-- Each bound of R220 is below the register's capacity. -/
theorem cfgReadWord_of_written {r r' : CfgRegs} {a : CfgAddr} {w : CfgWord} (h : cfgWritten r a w = some r') :
    cfgReadWord r' a = w := by
  unfold cfgWritten at h
  unfold cfgReadWord
  split at h
  case h_5 => cases h; rfl
  case h_7 => cases h
  all_goals
    split at h <;> cases h
    exact setWidth_setWidth_of_lt (by omega)

/-- Settles O31: an accepted write has put the word in its register, and the read gives that register back. -/
theorem acceptedWriteReadsBack : Obligations.AcceptedWriteReadsBack := by
  intro s t a w hwrite haccepted
  cases hr : cfgWritten s.cfg a w with
  | none =>
    rw [cfgWrite_of_rejected hr] at hwrite
    cases hwrite
    cases haccepted
  | some r =>
    rw [cfgWrite_of_accepted hr] at hwrite
    cases hwrite
    rw [cfgRead_eq, cfgReadWord_of_written hr]

/-! ## `REINIT` and `TIME` (R225, R226) -/

/-- Settles O26: a decoder at its reset values is idle, and an idle decoder discards the data byte. -/
theorem reinitResetsOneDecoder : Obligations.ReinitResetsOneDecoder := by
  rintro c d s t rfl
  refine ⟨exec_reinit c s, ?_, ?_⟩
  · rw [State.setDec_dec_other]
    exact s.beginEvent_dec c.other
  · refine (dataByteWhileIdleDiscarded c d _ ?_).trans ?_
    · rw [State.setDec_dec]
    · cases c <;> rfl

/-- Settles O33: the event's `d` is not 0, and `d = 0` is the one value that is not well formed. -/
theorem timeAdvancesNowAlone : Obligations.TimeAdvancesNowAlone :=
  ⟨fun s _ hd => exec_time _ (Nat.one_le_iff_ne_zero.1 hd) s, by decide⟩

end Sys2Proof.Proofs.ConfigTime
end

section
/-! PROOFS. No exceptions (60_exceptions.md R250, R259): `TIME(d)` is the one event that asks anything of its operands, and `exec`
answers every other with a next state from every state. -/

namespace Sys2Proof.Proofs.Exceptions

open Sys2Proof.Machine

theorem wellFormed_time_iff (d : Nat) : (Instr.time d).WellFormed ↔ 1 ≤ d := decide_eq_true_iff

/-- Settles O39: a legal `TIME` advances `now` (O33), and the equation of every other event in Laws/Exec has no premise. -/
theorem everyLegalEventCompletes : Obligations.EveryLegalEventCompletes := by
  intro i s hi
  cases i with
  | time d =>
    obtain ⟨hadvance, -⟩ := ConfigTime.timeAdvancesNowAlone
    exact ⟨_, hadvance s d ((wellFormed_time_iff d).1 hi)⟩
  | _ => exact ⟨_, rfl⟩

end Sys2Proof.Proofs.Exceptions
end

section
/-! PROOFS. `RESET` and waiting (70_reset_and_hazards.md R280..R283). First the step that runs no event, then the state a `RESET`
leaves and its invariants, then the first flush after it. -/

namespace Sys2Proof.Proofs.Reset

open Sys2Proof.Machine Sys2Proof.Proofs.Invariants Sys2Proof.Proofs.Glide Sys2Proof.Proofs.Flush

/-! ## A step that runs no event (R282; assumptions 1 and 5) -/

theorem step_of_no_event {s : State} (h : s.input = []) : step s = .next s := by
  rw [step, s.takeEvent_nil h]

theorem step_of_undecodable {s : State} {e : RawEvent} {rest : List RawEvent} {why : EventError} (hinput : s.input = e :: rest)
    (hdecode : decodeEvent e = .error why) : step s = .refused (.notAnEvent why) := by
  simp only [step, s.takeEvent_cons e rest hinput, hdecode]

/-- Settles O2: no event to take, no reading of the event taken, and the one event `exec` refuses. -/
theorem stepWithoutEventWaitsOrRefuses : Obligations.StepWithoutEventWaitsOrRefuses :=
  ⟨fun _ => step_of_no_event, fun _ _ _ _ => step_of_undecodable, exec_time_zero⟩

/-! ## The state after a `RESET` (R280) -/

/-- Settles O34: `RESET` answers `State.resetAll`, whose registers are these values. -/
theorem resetSetsEveryRegister : Obligations.ResetSetsEveryRegister :=
  fun s => exec_reset s

@[simp] theorem resetAll_dec (s : State) (c : Chan) : s.resetAll.dec c = Decoder.reset := by cases c <;> rfl

theorem decoderReset_idle : Decoder.reset.isIdle = true ∧ Decoder.reset.holdsRunningStatus = false := by decide

/-- All three note registers take `INIT_NOTE`, so the note is on its target. -/
theorem resetAll_phase (s : State) : s.resetAll.eng.phase = .idle := (phase_eq_idle_iff _).2 rfl

/-! ## The invariants after a `RESET` (R281) -/

theorem inv_resetAll {s : State} (h : s.params.cfgReset.legal = true) : Inv s.resetAll := inv_resetWith h s.input

theorem cfgDefaults_legal : CfgRegs.defaults.legal = true := by decide

/-- Settles O36: the chip's `CFG_RESET` has the default values, which are legal. -/
theorem resetMeetsInvariants : Obligations.ResetMeetsInvariants := inv_resetWith cfgDefaults_legal []

/-- `DAC_MAX` is the greatest sample of twelve bits (10_state.md R50 item 3). -/
theorem sample_toNat_le (v : Sample) : v.toNat ≤ 4095 := Nat.le_of_lt_succ v.isLt

/-- Settles O37: the invariants, and the reset values R281 names. -/
theorem resetEventMeetsInvariants : Obligations.ResetEventMeetsInvariants := by
  intro s t hlegal h
  cases h
  refine ⟨inv_resetAll hlegal, fun c => ?_, resetAll_phase s, rfl, rfl, rfl, rfl, rfl, sample_toNat_le _⟩
  rw [resetAll_dec]
  exact decoderReset_idle

/-! ## The first flush (R283) -/

theorem reset_lastWritten {s t : State} (h : exec .reset s = .next t) : t.eng.lastWritten = none := by
  cases h
  rfl

/-- Only a flush records a sample; a `RESET` clears the record. -/
theorem lastWritten_stays_none {i : Instr} {s t : State} (hflush : ∀ ok, i ≠ .flushTick ok) (h : exec i s = .next t)
    (hnone : s.eng.lastWritten = none) : t.eng.lastWritten = none := by
  obtain rfl | hreset := eq_or_ne i .reset
  · exact reset_lastWritten h
  · exact (lastWritten_unchanged (hflush true) hreset h).trans hnone

/-- `NONE` is no sample, so it differs from every output. -/
theorem flushTick_dac_of_none {s u : State} {ok : Bool} (hnone : s.eng.lastWritten = none)
    (h : exec (.flushTick ok) s = .next u) : u.out.dac = some s.eng.outputValue := by
  obtain ⟨-, hwrites⟩ := flushTick_dac h
  exact hwrites (by simp [hnone])

/-- Settles O59: `RESET` leaves `NONE`, it stays until a flush, and the flush writes. -/
theorem firstFlushAfterResetWrites : Obligations.FirstFlushAfterResetWrites :=
  ⟨fun _ _ => reset_lastWritten, fun _ _ _ => lastWritten_stays_none, fun _ _ _ => flushTick_dac_of_none⟩

end Sys2Proof.Proofs.Reset
end

section
/-! PROOFS. The opcode table's words (30_encoding.md section 6; assumption 6). A word has the reading of the raw event its row numbers,
and that event, presented first, is the one the next step takes. -/

namespace Sys2Proof.Proofs.TableWords

open Sys2Proof.Machine

theorem decodeTableWord_eq_some_iff {nbits w : Nat} {i : Instr} :
    decodeTableWord nbits w = some i ↔ decodeEvent (tableEvent nbits w) = .ok i := by
  unfold decodeTableWord
  cases decodeEvent (tableEvent nbits w) with
  | ok j => simp
  | error why => simp

/-- Presenting an event and taking it cancel, so `exec` starts from `s` itself, waiting events included. A `TIME(0)` is not excluded,
as it is in O1. -/
theorem step_present_of_decodeEvent (s : State) {e : RawEvent} {i : Instr} (h : decodeEvent e = .ok i) :
    step (s.present e) = exec i s := by
  simp only [step, s.takeEvent_present e, h]

/-- Settles O3: the word's event is presented first and decodes to the word's reading. -/
theorem presentedTableWordRunsNext : Obligations.PresentedTableWordRunsNext :=
  fun s _ _ _ hword => step_present_of_decodeEvent s (decodeTableWord_eq_some_iff.1 hword)

end Sys2Proof.Proofs.TableWords
end
